-- ==== Sys2Proof/Word.lean ====
section
/-! DEFINITION. The bit-vector widths the spec gives the block (00_scope.md section 4, "Fixed widths"). -/

namespace Sys2Proof

/-- One bit: an option, a flag of the result port. -/
abbrev Bit := BitVec 1

/-- A byte of a transaction (R9). -/
abbrev Byte := BitVec 8

/-- The 12-bit two's-complement temperature code (R20). -/
abbrev Code := BitVec 12

/-- A `u32`: byte counts, the timeout, the error registers, a binary32 pattern. -/
abbrev U32 := BitVec 32

end Sys2Proof
end

