-- ==== Sys2Proof/Config.lean ====
section
/-! DEFINITION. The parameters of 00_scope.md R8 and the values the spec leaves free. -/

namespace Sys2Proof

/-- SensorAddress (10_state.md R12): the rail the sensor's ADD0 pin is tied to. -/
inductive AddrSel where
  | ground | supply | dataLine | clockLine
deriving DecidableEq, Repr, Inhabited

/-- `P_TRIGGER_GATE_BIT` ∈ {0, 7} (00_scope.md R8, D11): the byte0 bit the trigger gate tests. -/
inductive GateBit where
  | bit0 | bit7
deriving DecidableEq, Repr

/-- `P_ACCESSOR_ARITH` (43_unit_accessors.md R100): binary32 left to right, or the one alternative. -/
inductive AccessorArith where
  | leftToRight | exactThenRound
deriving DecidableEq, Repr

/-- One answer of the executor (00_scope.md R5, R10): the reported count and the two bytes a read
receives; a write-only call uses the count alone. -/
structure BusAnswer where
  count : U32
  byte0 : Byte
  byte1 : Byte
deriving DecidableEq, Repr, Inhabited

namespace Config

/-- The parameters of R8, each fixed for the life of one block instance. -/
structure Params where
  /-- `P_ADDR_SEL` -/
  addrSel : AddrSel
  /-- `P_BUS_FREQ_HZ` -/
  busFreqHz : U32
  /-- `P_XFER_TIMEOUT_MS` -/
  xferTimeoutMs : U32
  /-- `P_EXP_CFG_READ` -/
  expCfgRead : U32
  /-- `P_EXP_CFG_WRITE` -/
  expCfgWrite : U32
  /-- `P_EXP_TEMP_READ` -/
  expTempRead : U32
  /-- `P_T_INIT_PRE_MS` -/
  tInitPreMs : U32
  /-- `P_T_INIT_POST_MS` -/
  tInitPostMs : U32
  /-- `P_T_TRIG_MS` -/
  tTrigMs : U32
  /-- `P_POLL_LIMIT`: none, or a count N ≥ 1 -/
  pollLimit : Option Nat
  /-- `P_TRIGGER_GATE_BIT` -/
  gateBit : GateBit
  /-- `P_DEFAULT_ALERT_POLARITY`: 0 ActiveLow, 1 ActiveHigh (R47) -/
  defaultAlertPolarity : Bit
  /-- `P_ACCESSOR_ARITH` -/
  accessorArith : AccessorArith
deriving DecidableEq, Repr

/-- `P_DEFAULT_ALERT_POLARITY` is OPEN (R8, R16, D9: "do not guess"), so no value is fixed.
DESIGN CHOICE, safe: log 6. -/
opaque defaultAlertPolarity : Bit

/-- `P_BUS_FREQ_HZ` has no value in the spec (R13, D24). DESIGN CHOICE, safe: log 5. -/
opaque busFreqHz : U32

/-- The executor's answer to the n-th call made after the scripted answers ran out: a free draw
(00_scope.md R5, D22). DESIGN CHOICE, safe: log 2. -/
opaque freeAnswer : Nat → BusAnswer

end Config
end Sys2Proof
end

