-- ==== Sys2Proof/Machine/Binary32.lean ====
section
/-! DEFINITION. IEEE 754 binary32 as 00_scope.md R9 uses it: a rational rounded to nearest, ties to even,
and the operations `*f`, `/f`, `+f`, each the exact result rounded once. PRESUMED, as the spec marks it
[from general knowledge, not in source]: log 13. -/

namespace Sys2Proof.Machine

open Sys2Proof

/-- The rational `m * 2^e`. -/
def scale2 (m : Nat) (e : Int) : Rat :=
  if 0 ≤ e then ((m * 2 ^ e.toNat : Nat) : Rat) else mkRat m (2 ^ (-e).toNat)

/-- The value of a finite binary32 pattern: sign bit 31, biased exponent bits 30:23, fraction bits 22:0. -/
def value32 (x : U32) : Rat :=
  let ex := (x.extractLsb' 23 8).toNat
  let fr := (x.extractLsb' 0 23).toNat
  let mag := if ex = 0 then scale2 fr (-149) else scale2 (2 ^ 23 + fr) ((ex : Int) - 150)
  if x.getLsbD 31 then -mag else mag

/-- A pattern that denotes a number: its biased exponent is not 255. -/
def finite32 (x : U32) : Bool := x.extractLsb' 23 8 != 0xFF#8

/-- `num / den` to the nearest natural number, a tie to the even one. -/
def roundHalfEven (num den : Nat) : Nat :=
  let q := num / den
  let r := num % den
  if 2 * r < den then q
  else if den < 2 * r then q + 1
  else if q % 2 = 0 then q else q + 1

/-- The largest `e` with `2^e ≤ num / den`, for positive `num` and `den`. -/
def floorLog2 (num den : Nat) : Int :=
  let e : Int := (Nat.log2 num : Int) - (Nat.log2 den : Int)
  if den * 2 ^ e.toNat ≤ num * 2 ^ (-e).toNat then e else e - 1

/-- The bits of a positive `num / den` below the sign: the significand at the quantum of its binade (never
below `2^-149`), rounded, with the exponent field counted from the quantum; a carry out of the significand
moves into the exponent, and what exceeds the largest finite number is the infinity pattern. -/
def magnitude32 (num den : Nat) : Nat :=
  let e := max (floorLog2 num den) (-126)
  let sh := e - 23
  let m := roundHalfEven (num * 2 ^ (-sh).toNat) (den * 2 ^ sh.toNat)
  min ((e + 126).toNat * 2 ^ 23 + m) 0x7F800000

/-- `rnd32(q)` (R9). A zero is +0.0 (43_unit_accessors.md R101: "never -0.0"). -/
def rnd32 (q : Rat) : U32 :=
  if q = 0 then 0
  else
    let mag := BitVec.ofNat 32 (magnitude32 q.num.natAbs q.den)
    if q < 0 then mag ||| 0x80000000#32 else mag

/-- `a *f b` (R9). -/
def mul32 (a b : U32) : U32 := rnd32 (value32 a * value32 b)

/-- `a /f b` (R9). -/
def div32 (a b : U32) : U32 := rnd32 (value32 a / value32 b)

/-- `a +f b` (R9). -/
def add32 (a b : U32) : U32 := rnd32 (value32 a + value32 b)

end Sys2Proof.Machine
end

