-- ==== Sys2Proof/Syntax.lean ====
section
/-! DEFINITION. The instructions: one constructor per row of spec/opcode_table.json, the option values
of 30_encoding.md R47, and the reasons the decoder rejects. -/

namespace Sys2Proof

/-- The ten rows of the opcode table. The first six are the host's command words (30_encoding.md R51),
the next three the bus frames the block issues (R50), the last the delay (40_bus_transactions.md R63). -/
inductive Instr where
  /-- INIT (R67): the four option codes of R47. -/
  | init (oneShot alertPolarity : Bit) (conversionRate : BitVec 2) (thermostatMode : Bit)
  /-- READ (R80) -/
  | read
  /-- GET_C (R101) -/
  | getC
  /-- GET_F (R102) -/
  | getF
  /-- GET_K (R103) -/
  | getK
  /-- GET_R (R104) -/
  | getR
  /-- CFG_READ (R60) -/
  | cfgRead
  /-- CFG_WRITE(d0, d1) (R61) -/
  | cfgWrite (d0 d1 : Byte)
  /-- TEMP_READ (R62) -/
  | tempRead
  /-- DELAY(ms) (R63): the lower bound in milliseconds -/
  | delay (ms : U32)
deriving DecidableEq, Repr

/-- The "format" column of the opcode table. -/
inductive Format where
  | commandWord | busFrame | delayEvent
deriving DecidableEq, Repr

/-- The format of an instruction's row. -/
def Instr.format : Instr → Format
  | .init _ _ _ _ => .commandWord
  | .read => .commandWord
  | .getC => .commandWord
  | .getF => .commandWord
  | .getK => .commandWord
  | .getR => .commandWord
  | .cfgRead => .busFrame
  | .cfgWrite _ _ => .busFrame
  | .tempRead => .busFrame
  | .delay _ => .delayEvent

/-- ConversionRate (R47). -/
inductive ConversionRate where
  | hz0p25 | hz1 | hz4 | hz8
deriving DecidableEq, Repr

/-- ThermostatMode (R47). -/
inductive ThermostatMode where
  | comparator | interrupt
deriving DecidableEq, Repr

/-- AlertPolarity (R47). -/
inductive AlertPolarity where
  | activeLow | activeHigh
deriving DecidableEq, Repr

/-- ConsecutiveFaults (R47): held in `M_FAULTS` only, never transmitted (R19). -/
inductive ConsecutiveFaults where
  | one | two | four | six
deriving DecidableEq, Repr

/-- The pseudo-instructions of 30_encoding.md R57. -/
inductive Pseudo where
  | initDefaults (oneShot : Bit)
  | readAsC | readAsF | readAsK | readAsR
deriving DecidableEq, Repr

/-- Why a word or a byte list is no instruction (30_encoding.md R54, R66): the three groups of reserved
words, and a byte list that is none of the block's frames. -/
inductive DecodeError where
  /-- major opcode 0b000 or 0b100 to 0b111 -/
  | reservedMajor (c : Byte)
  /-- READ with a non-zero operand field -/
  | readOperand (c : Byte)
  /-- GET with `c[4:2]` not 0 -/
  | getOperand (c : Byte)
  /-- write bytes and read length of no frame of R50 -/
  | noFrame (w : List Byte) (rlen : Nat)
deriving DecidableEq, Repr

end Sys2Proof
end

