-- ==== Sys2Proof/Machine/Operands.lean ====
section
/-! DEFINITION. How operands are assembled: option codes (30_encoding.md R47), configuration packing
(41_config_packing.md R70, R71), the trigger byte (42_acquisition.md R84), the temperature code and its value
(R49, R90, R91, R92), the accessors' results (43_unit_accessors.md R100), the bus frames (30_encoding.md R50). -/

namespace Sys2Proof

/-- R47: position in the source's list. -/
def ConversionRate.code : ConversionRate → BitVec 2
  | .hz0p25 => 0
  | .hz1 => 1
  | .hz4 => 2
  | .hz8 => 3

/-- R47 -/
def ThermostatMode.code : ThermostatMode → Bit
  | .comparator => 0
  | .interrupt => 1

/-- R47 -/
def AlertPolarity.code : AlertPolarity → Bit
  | .activeLow => 0
  | .activeHigh => 1

/-- R47: the codes of 1, 2, 4 and 6 faults. -/
def ConsecutiveFaults.code : ConsecutiveFaults → BitVec 2
  | .one => 0
  | .two => 1
  | .four => 2
  | .six => 3

/-- R8: the byte0 bit a `P_TRIGGER_GATE_BIT` names. -/
def GateBit.index : GateBit → Nat
  | .bit0 => 0
  | .bit7 => 7

namespace Machine

/-- The options of an INIT, as INIT's latch holds them (R28, R52). -/
structure Options where
  os : Bit
  pol : Bit
  rate : BitVec 2
  tm : Bit
deriving DecidableEq, Repr

/-- R70: byte0 with the three option bits replaced. -/
def packByte0 (o : Options) (b0 : Byte) : Byte :=
  (b0 &&& 0xF8#8) ||| (o.pol.setWidth 8 <<< 2) ||| (o.tm.setWidth 8 <<< 1) ||| o.os.setWidth 8

/-- R71: byte1 with the rate code in its top two bits. -/
def packByte1 (o : Options) (b1 : Byte) : Byte :=
  (b1 &&& 0x3F#8) ||| (o.rate.setWidth 8 <<< 6)

/-- R84: byte0 with the OS bit set. -/
def triggerByte0 (b0 : Byte) : Byte := b0 ||| 0x80#8

/-- R49, R90: `code = (byte0 << 4) | (byte1 >> 4)` at 12 bits. -/
def tempCode (byte0 byte1 : Byte) : Code :=
  (byte0.setWidth 12 <<< 4) ||| (byte1 >>> 4).setWidth 12

/-- R91, R21: the Celsius value, `sint(code) / 16`, exact. -/
def celsius (code : Code) : Rat := (code.toInt : Rat) / 16

/-- R92: the unsigned magnitude of a code. -/
def magnitude (code : Code) : Code := if code.msb then ~~~(code - 1) else code

/-- R92: from a Celsius value that is a multiple of 0.0625 in [-128, 127.9375] to its code,
`(16 * t) mod 4096`. -/
def codeOfCelsius (t : Rat) : Code := BitVec.ofInt 12 (16 * t).floor

/-- R92: the sensor bytes that carry a code; the low nibble of byte1 is any. -/
def bytesOfCode (code : Code) (low : BitVec 4) : Byte × Byte :=
  (code.extractLsb' 4 8, code.extractLsb' 0 4 ++ low)

/-- R91: the binary32 pattern of the Celsius value. -/
def celsius32 (code : Code) : U32 := rnd32 (celsius code)

/-- R100: `rnd32(273.15)`. -/
def k273 : U32 := 0x43889333

/-- R100: the binary32 constants of the formulas. -/
def c9 : U32 := 0x41100000
def c5 : U32 := 0x40A00000
def c32 : U32 := 0x42000000

/-- R102 under R100's two arithmetics. -/
def fahrenheit32 (a : AccessorArith) (code : Code) : U32 :=
  match a with
  | .leftToRight => add32 (div32 (mul32 (celsius32 code) c9) c5) c32
  | .exactThenRound => rnd32 (celsius code * 9 / 5 + 32)

/-- R103 under R100's two arithmetics. -/
def kelvin32 (a : AccessorArith) (code : Code) : U32 :=
  match a with
  | .leftToRight => add32 (celsius32 code) k273
  | .exactThenRound => rnd32 (celsius code + 27315 / 100)

/-- R104 under R100's two arithmetics: from the rounded Kelvin value, or from the exact one. -/
def rankine32 (a : AccessorArith) (code : Code) : U32 :=
  match a with
  | .leftToRight => div32 (mul32 (kelvin32 .leftToRight code) c9) c5
  | .exactThenRound => rnd32 ((celsius code + 27315 / 100) * 9 / 5)

/-- The three frames of R50. -/
inductive Frame where
  | cfgRead
  | cfgWrite (d0 d1 : Byte)
  | tempRead
deriving DecidableEq, Repr

/-- R50, R37: the write bytes in transfer order, the pointer first. -/
def writeBytes : Frame → List Byte
  | .cfgRead => [0x01]
  | .cfgWrite d0 d1 => [0x01, d0, d1]
  | .tempRead => [0x00]

/-- R50: how many bytes the call reads. -/
def readLen : Frame → Nat
  | .cfgRead => 2
  | .cfgWrite _ _ => 0
  | .tempRead => 2

/-- R50: the count the frame's check expects. -/
def expectedCount (p : Config.Params) : Frame → U32
  | .cfgRead => p.expCfgRead
  | .cfgWrite _ _ => p.expCfgWrite
  | .tempRead => p.expTempRead

/-- R10: the bytes received, in order; none for a write-only call. -/
def readBytes (rlen : Nat) (a : BusAnswer) : List Byte := [a.byte0, a.byte1].take rlen

/-- What one executor call passes (R5, R10). -/
structure BusCall where
  w : List Byte
  rlen : Nat
  timeoutMs : U32
deriving DecidableEq, Repr

/-- R10: the call of a frame, with the timeout `P_XFER_TIMEOUT_MS`. -/
def busCall (p : Config.Params) (f : Frame) : BusCall :=
  ⟨writeBytes f, readLen f, p.xferTimeoutMs⟩

end Machine
end Sys2Proof
end

