-- ==== Sys2Proof/Machine/Defaults.lean ====
section
/-! DEFINITION. What construction starts from: the address table of 10_state.md R12 and the parameter
defaults of 00_scope.md R8. -/

namespace Sys2Proof.Machine

open Sys2Proof

/-- The table of R12: Ground→0x48, Supply→0x49, DataLine→0x4A, ClockLine→0x4B. -/
def addr7Of : AddrSel → BitVec 7
  | .ground => 0x48
  | .supply => 0x49
  | .dataLine => 0x4A
  | .clockLine => 0x4B

/-- R8: every parameter at the spec's default; the three that have none are arguments. -/
def defaultParams (addrSel : AddrSel) (busFreqHz : U32) (polarity : Bit) : Config.Params where
  addrSel := addrSel
  busFreqHz := busFreqHz
  xferTimeoutMs := 30
  expCfgRead := 2
  expCfgWrite := 3
  expTempRead := 3
  tInitPreMs := 30
  tInitPostMs := 30
  tTrigMs := 1
  pollLimit := none
  gateBit := .bit0
  defaultAlertPolarity := polarity
  accessorArith := .leftToRight

/-- The parameters of `State.reset`: the spec's defaults, ADDR_SEL = Ground as in the programs of
95_test_vectors.md section 3, and no value for the two the spec leaves without one.
DESIGN CHOICE: logs 3, 4, 5, 6. -/
def resetParams : Config.Params :=
  defaultParams .ground Config.busFreqHz Config.defaultAlertPolarity

end Sys2Proof.Machine
end

