-- ==== Sys2Proof/Machine/State.lean ====
section
/-! DEFINITION. The block's state (10_state.md R11), what can stop it (nothing), and its reset
(70_reset_and_hazards.md R125). -/

namespace Sys2Proof.Machine

open Sys2Proof

/-- `PHASE` (10_state.md R27). -/
inductive Phase where
  | idle
  | iPre | iRd | iWr | iPost
  | rTrigRd | rTrigWr | rTrigDly | rPoll | rTemp
deriving DecidableEq, Repr

/-- The events of `HIST` (10_state.md R33). -/
inductive Event where
  /-- a command was accepted -/
  | cmd (word : Byte)
  /-- one executor call: write bytes, read length, reported count, read bytes -/
  | txn (w : List Byte) (rlen : Nat) (n : U32) (r : List Byte)
  /-- a delay, with its lower bound -/
  | wait (ms : U32)
  /-- an INIT or READ ended with this status -/
  | done (status : BitVec 2)
deriving DecidableEq, Repr

/-- What the host does at the command port at one step (00_scope.md R4). The model's own rendering.
DESIGN CHOICE, safe: log 1. -/
inductive HostAct where
  /-- wait for `BUSY = 0`, then present the word (70_reset_and_hazards.md R131) -/
  | issue (word : Byte)
  /-- present the word now, whatever `BUSY` is (60_exceptions.md R117) -/
  | force (word : Byte)
  /-- present nothing for one step -/
  | pass
deriving DecidableEq, Repr

/-- The elements of 10_state.md R11, the parameters of 00_scope.md R8, and the model's own three fields
for the host and the executor. -/
@[ext]
structure State where
  /-- R8: fixed from reset to the next reset -/
  params : Config.Params
  /-- `ADDR_SEL` (R12) -/
  addrSel : AddrSel
  /-- `ADDR7` (R12) -/
  addr7 : BitVec 7
  /-- `BUS_FREQ_HZ` (R13) -/
  busFreqHz : U32
  /-- `M_ONESHOT` (R15) -/
  mOneshot : Bit
  /-- `M_POL` (R16) -/
  mPol : Bit
  /-- `M_RATE` (R17) -/
  mRate : BitVec 2
  /-- `M_TM` (R18) -/
  mTm : Bit
  /-- `M_FAULTS` (R19) -/
  mFaults : BitVec 2
  /-- `TCODE` (R20) -/
  tcode : Code
  /-- `BUSY` (R22) -/
  busy : Bit
  /-- `STATUS` (R23) -/
  status : BitVec 2
  /-- `ERR_EXPECTED` (R24) -/
  errExpected : U32
  /-- `ERR_ACTUAL` (R25) -/
  errActual : U32
  /-- `RESULT` (R26): a binary32 pattern -/
  result : U32
  /-- `PHASE` (R27) -/
  phase : Phase
  /-- the command latch (R28) -/
  lOs : Bit
  lPol : Bit
  lRate : BitVec 2
  lTm : Bit
  /-- `CFGBUF[0]`, `CFGBUF[1]` (R29) -/
  cfgbuf0 : Byte
  cfgbuf1 : Byte
  /-- `TBUF[0]`, `TBUF[1]` (R30) -/
  tbuf0 : Byte
  tbuf1 : Byte
  /-- `POLLS` (R31) -/
  polls : Nat
  /-- `REFUSED` (R32) -/
  refused : Bit
  /-- `HIST` (R33), oldest first -/
  hist : List Event
  /-- the model's own: what the host presents from now on (log 1) -/
  host : List HostAct
  /-- the model's own: the executor's answers to the next calls (log 2) -/
  answers : List BusAnswer
  /-- the model's own: how many free draws were taken since `answers` ran out (log 2) -/
  draws : Nat
deriving DecidableEq, Repr

/-- Nothing stops the block: every error of the spec ends a command and returns to IDLE
(60_exceptions.md R115, R118), so no fault has a constructor. Raised by nobody; safe: log 16. -/
inductive Fault where
deriving DecidableEq, Repr

/-- The spec's refusals (R116, R117) are next states with `REFUSED = 1`, not outcomes: log 16. -/
inductive Refusal where
  /-- Raised by a dispatch arm without a meaning; none is left. Safe. -/
  | notModelled (mnemonic : String)
deriving DecidableEq, Repr

/-- Construction, the block's reset (R125): `ADDR_SEL` and `BUS_FREQ_HZ` from the arguments, `ADDR7` by
R12, `M_POL` from `P_DEFAULT_ALERT_POLARITY` (R16), every other element at the value its rule gives. -/
def State.construct (p : Config.Params) : State where
  params := p
  addrSel := p.addrSel
  addr7 := addr7Of p.addrSel
  busFreqHz := p.busFreqHz
  mOneshot := 0
  mPol := p.defaultAlertPolarity
  mRate := 2
  mTm := 0
  mFaults := 0
  tcode := 0x000
  busy := 0
  status := 0
  errExpected := 0
  errActual := 0
  result := 0x00000000
  phase := .idle
  lOs := 0
  lPol := 0
  lRate := 0
  lTm := 0
  cfgbuf0 := 0x00
  cfgbuf1 := 0x00
  tbuf0 := 0x00
  tbuf1 := 0x00
  polls := 0
  refused := 0
  hist := []
  host := []
  answers := []
  draws := 0

/-- The block right after construction (R125). -/
def State.reset : State := .construct resetParams

end Sys2Proof.Machine
end

