-- ==== Sys2Proof/Machine/Flags.lean ====
section
/-! DEFINITION. The block has no condition flags (10_state.md R11). The conditions its rules test: the count
check (40_bus_transactions.md R64), the trigger gate (42_acquisition.md R83), the OS bit (R87), the poll limit
(R88), and the status codes (60_exceptions.md R113). -/

namespace Sys2Proof.Machine

open Sys2Proof

/-- `STATUS` codes (10_state.md R23). -/
def statusOk : BitVec 2 := 0
def statusTransferMismatch : BitVec 2 := 1
def statusPollTimeout : BitVec 2 := 2

/-- R64: a transaction passes when its count equals the expected count of its frame, and for no other. -/
def countPasses (p : Config.Params) (f : Frame) (a : BusAnswer) : Bool := a.count == expectedCount p f

/-- R83: the gate bit of the byte0 last read. -/
def gateOpen (s : State) : Bool := s.cfgbuf0.getLsbD s.params.gateBit.index

/-- R87: the OS bit of the byte0 last read. -/
def osSet (s : State) : Bool := s.cfgbuf0.getLsbD 7

/-- R88: `P_POLL_LIMIT` is not none and `POLLS >= P_POLL_LIMIT`. -/
def pollLimitReached (s : State) : Bool :=
  match s.params.pollLimit with
  | none => false
  | some n => decide (n ≤ s.polls)

/-- R4, R67, R80: a command is accepted when `PHASE = IDLE` and `BUSY = 0`. -/
def ready (s : State) : Bool := s.phase == .idle && s.busy == 0

end Sys2Proof.Machine
end

