-- ==== Sys2Proof/Machine/Ops.lean ====
section
/-! DEFINITION. The operations the instructions share: recording an event, one executor call, the count
check, ending a command (with success or an error), refusing a word. -/

namespace Sys2Proof.Machine

open Sys2Proof

/-- `HIST += e` (10_state.md R33). -/
def record (e : Event) (s : State) : State := { s with hist := s.hist ++ [e] }

/-- The executor's next answer (00_scope.md R5): the next scripted one, else a free draw (log 2). -/
def nextAnswer (s : State) : BusAnswer :=
  match s.answers with
  | a :: _ => a
  | [] => Config.freeAnswer s.draws

/-- The state with that answer taken. -/
def takeAnswer (s : State) : State :=
  match s.answers with
  | _ :: as => { s with answers := as }
  | [] => { s with draws := s.draws + 1 }

/-- `Bus(w, rlen)` (00_scope.md R10) for a frame, answered by `a`: the call is recorded in `HIST`. -/
def bus (f : Frame) (a : BusAnswer) (s : State) : State :=
  let call := busCall s.params f
  record (.txn call.w call.rlen a.count (readBytes call.rlen a)) (takeAnswer s)

/-- End the running command: `STATUS <- st`, `BUSY <- 0`, `PHASE <- IDLE`, `HIST += Done(st)`
(the part R110, R111 and R112 share). -/
def endCommand (st : BitVec 2) (s : State) : State :=
  record (.done st) { s with status := st, busy := 0, phase := .idle }

/-- `finish(ok)` (60_exceptions.md R110). -/
def finishOk (s : State) : State := endCommand statusOk s

/-- `raise TransferMismatch(expected, actual)` (R111). -/
def raiseMismatch (expected actual : U32) (s : State) : State :=
  endCommand statusTransferMismatch { s with errExpected := expected, errActual := actual }

/-- `raise PollTimeout` (R112). -/
def raisePollTimeout (s : State) : State := endCommand statusPollTimeout s

/-- One transaction with its count check (R60 to R62, R64): on a mismatch the running command ends, else
the received bytes go where `store` puts them. -/
def transact (f : Frame) (store : BusAnswer → State → State) (s : State) : State :=
  let a := nextAnswer s
  if countPasses s.params f a then store a (bus f a s)
  else raiseMismatch (expectedCount s.params f) a.count (bus f a s)

/-- R60: the bytes of a configuration read go to `CFGBUF`. -/
def storeCfg (a : BusAnswer) (s : State) : State := { s with cfgbuf0 := a.byte0, cfgbuf1 := a.byte1 }

/-- R62: the bytes of a temperature read go to `TBUF`. -/
def storeTemp (a : BusAnswer) (s : State) : State := { s with tbuf0 := a.byte0, tbuf1 := a.byte1 }

/-- R116, R117: `REFUSED <- 1` and nothing else. -/
def refuse (s : State) : State := { s with refused := 1 }

/-- R4, R117: a command is carried out when the block is ready, else refused. -/
def whenReady (effect : State → State) (s : State) : State := if ready s then effect s else refuse s

/-- The options in the command latch (R28). -/
def latched (s : State) : Options := ⟨s.lOs, s.lPol, s.lRate, s.lTm⟩

end Sys2Proof.Machine
end

