-- ==== Sys2Proof/Machine/Accessors.lean ====
section
/-! DEFINITION. The unit accessors GET_C, GET_F, GET_K, GET_R (43_unit_accessors.md R101 to R104): each completes
in the step that accepts it, reads only `TCODE` and writes only `RESULT` and `HIST` (R105). -/

namespace Sys2Proof.Machine

open Sys2Proof

/-- The shape R101 to R104 share: `HIST += Cmd(c)`, `RESULT <- x`. -/
def accessor (c : Byte) (x : U32) (s : State) : State := record (.cmd c) { s with result := x }

/-- GET_C (R101). -/
def execGetC (s : State) : Host.Outcome State Fault Refusal :=
  .next (whenReady (accessor 0x60 (celsius32 s.tcode)) s)

/-- GET_F (R102). -/
def execGetF (s : State) : Host.Outcome State Fault Refusal :=
  .next (whenReady (accessor 0x61 (fahrenheit32 s.params.accessorArith s.tcode)) s)

/-- GET_K (R103). -/
def execGetK (s : State) : Host.Outcome State Fault Refusal :=
  .next (whenReady (accessor 0x62 (kelvin32 s.params.accessorArith s.tcode)) s)

/-- GET_R (R104). -/
def execGetR (s : State) : Host.Outcome State Fault Refusal :=
  .next (whenReady (accessor 0x63 (rankine32 s.params.accessorArith s.tcode)) s)

end Sys2Proof.Machine
end

