-- ==== Sys2Proof/Machine/BusFrames.lean ====
section
/-! DEFINITION. The bus frames and the delay (40_bus_transactions.md): CFG_READ, CFG_WRITE, TEMP_READ, DELAY. -/

namespace Sys2Proof.Machine

open Sys2Proof

/-- CFG_READ (R60). -/
def execCfgRead (s : State) : Host.Outcome State Fault Refusal :=
  .next (transact .cfgRead storeCfg s)

/-- CFG_WRITE(d0, d1) (R61): the answer's bytes are not used. -/
def execCfgWrite (d0 d1 : Byte) (s : State) : Host.Outcome State Fault Refusal :=
  .next (transact (.cfgWrite d0 d1) (fun _ s => s) s)

/-- TEMP_READ (R62). -/
def execTempRead (s : State) : Host.Outcome State Fault Refusal :=
  .next (transact .tempRead storeTemp s)

/-- DELAY(ms) (R63): the event, and nothing else. -/
def execDelay (ms : U32) (s : State) : Host.Outcome State Fault Refusal :=
  .next (record (.wait ms) s)

end Sys2Proof.Machine
end

