-- ==== Sys2Proof/Decode.lean ====
section
/-! DEFINITION. The encodings: the command word (30_encoding.md R51 to R55) and the bus frames (R50),
decoded and encoded. -/

namespace Sys2Proof

/-- One row of the table of R51. -/
structure CommandRow where
  mask : Byte
  pattern : Byte
  build : Byte → Instr

/-- R52: `o = c[4]`, `p = c[3]`, `rr = c[2:1]`, `t = c[0]`, with no extension or scaling. -/
def initOfWord (c : Byte) : Instr :=
  .init (c.extractLsb' 4 1) (c.extractLsb' 3 1) (c.extractLsb' 1 2) (c.extractLsb' 0 1)

/-- The six rows of R51, in its order. -/
def commandRows : List CommandRow :=
  [⟨0xE0, 0x20, initOfWord⟩,
   ⟨0xFF, 0x40, fun _ => .read⟩,
   ⟨0xFF, 0x60, fun _ => .getC⟩,
   ⟨0xFF, 0x61, fun _ => .getF⟩,
   ⟨0xFF, 0x62, fun _ => .getK⟩,
   ⟨0xFF, 0x63, fun _ => .getR⟩]

/-- R51: a word matches a row when its masked bits are the row's. -/
def CommandRow.accepts (r : CommandRow) (c : Byte) : Bool := c &&& r.mask == r.pattern

/-- R54: the name of a reserved word's group, by its major opcode `c[7:5]`. -/
def reservedWord (c : Byte) : DecodeError :=
  match c.extractLsb' 5 3 with
  | 0b010#3 => .readOperand c
  | 0b011#3 => .getOperand c
  | _ => .reservedMajor c

/-- R55: compare the word with the six rows; refuse a word no row matches. -/
def decodeCommand (c : Byte) : Except DecodeError Instr :=
  match commandRows.find? (fun r => r.accepts c) with
  | some r => .ok (r.build c)
  | none => .error (reservedWord c)

/-- R50: write bytes and read length identify the frame. -/
def decodeFrame (w : List Byte) (rlen : Nat) : Except DecodeError Instr :=
  match w with
  | [p] =>
    if p = 0x01 ∧ rlen = 2 then .ok .cfgRead
    else if p = 0x00 ∧ rlen = 2 then .ok .tempRead
    else .error (.noFrame w rlen)
  | [p, d0, d1] => if p = 0x01 ∧ rlen = 0 then .ok (.cfgWrite d0 d1) else .error (.noFrame w rlen)
  | _ => .error (.noFrame w rlen)

/-- R50: the read length of a frame by its number of write bytes: a pointer byte alone reads two bytes,
pointer and data bytes read none. -/
def frameReadLen (w : List Byte) : Nat := if w.length = 1 then 2 else 0

/-- The decoder over a list of bytes, by the table's format. -/
def decode (f : Format) (w : List Byte) : Except DecodeError Instr :=
  match f, w with
  | .commandWord, [c] => decodeCommand c
  | .busFrame, w => decodeFrame w (frameReadLen w)
  | _, w => .error (.noFrame w 0)

/-- R51, R52: the command word of INIT, `001oprrt`. -/
def initWord (o p : Bit) (r : BitVec 2) (t : Bit) : Byte := 0b001#3 ++ o ++ p ++ r ++ t

/-- The bytes of an instruction (R50, R51); DELAY has none (R63: "no bus frame"). -/
def encode : Instr → List Byte
  | .init o p r t => [initWord o p r t]
  | .read => [0x40]
  | .getC => [0x60]
  | .getF => [0x61]
  | .getK => [0x62]
  | .getR => [0x63]
  | .cfgRead => [0x01]
  | .cfgWrite d0 d1 => [0x01, d0, d1]
  | .tempRead => [0x00]
  | .delay _ => []

/-- The byte list of a number whose bit 0 is the first byte's least significant bit. -/
def tableBytes : Nat → Nat → List Byte
  | 0, _ => []
  | n + 1, w => BitVec.ofNat 8 w :: tableBytes n (w / 256)

/-- What the decoder reads from the table's numbering of an instruction. One byte is a command word where
a row of R51 matches it, else a one-byte frame; more bytes are the longest frame, CFG_WRITE, the operand
bits above `nbits` zero. DEDUCED, safe: log 7. -/
def decodeTableWord (nbits w : Nat) : Option Instr :=
  if nbits = 0 then none
  else if nbits ≤ 8 then
    match decode .commandWord (tableBytes 1 w) with
    | .ok i => some i
    | .error _ => (decode .busFrame (tableBytes 1 w)).toOption
  else if nbits ≤ 24 then (decode .busFrame (tableBytes 3 w)).toOption
  else none

end Sys2Proof
end

