-- ==== Sys2Proof/Machine/Commands.lean ====
section
/-! DEFINITION. Accepting the two multi-step commands: INIT (41_config_packing.md R67) and READ
(42_acquisition.md R80). Their later steps are the phases of Machine/Sequencer.lean. -/

namespace Sys2Proof.Machine

open Sys2Proof

/-- R67, accept: latch the options, `BUSY <- 1`, `HIST += Cmd(c)`, `PHASE <- I_PRE`. -/
def acceptInit (o p : Bit) (r : BitVec 2) (t : Bit) (s : State) : State :=
  record (.cmd (initWord o p r t))
    { s with lOs := o, lPol := p, lRate := r, lTm := t, busy := 1, phase := .iPre }

/-- R80, accept: `BUSY <- 1`, `HIST += Cmd(c)`, and the path by `M_ONESHOT`. -/
def acceptRead (s : State) : State :=
  record (.cmd 0x40) { s with busy := 1, phase := if s.mOneshot = 1 then .rTrigRd else .rTemp }

/-- INIT (R67): accepted when the block is ready, else refused (R117). -/
def execInit (o p : Bit) (r : BitVec 2) (t : Bit) (s : State) : Host.Outcome State Fault Refusal :=
  .next (whenReady (acceptInit o p r t) s)

/-- READ (R80): accepted when the block is ready, else refused (R117). -/
def execRead (s : State) : Host.Outcome State Fault Refusal :=
  .next (whenReady acceptRead s)

end Sys2Proof.Machine
end

