-- ==== Sys2Proof/Machine/Dispatch.lean ====
section
/-! DEFINITION. One arm per row of spec/opcode_table.json. -/

namespace Sys2Proof.Machine

open Sys2Proof

-- INIT and READ: acceptance; their later steps are the phases of Machine/Sequencer.lean
def exec (i : Instr) (s : State) : Host.Outcome State Fault Refusal :=
  match i with
  | .init o p r t => Sys2Proof.Machine.execInit o p r t s
  | .read => Sys2Proof.Machine.execRead s
  | .getC => Sys2Proof.Machine.execGetC s
  | .getF => Sys2Proof.Machine.execGetF s
  | .getK => Sys2Proof.Machine.execGetK s
  | .getR => Sys2Proof.Machine.execGetR s
  | .cfgRead => Sys2Proof.Machine.execCfgRead s
  | .cfgWrite d0 d1 => Sys2Proof.Machine.execCfgWrite d0 d1 s
  | .tempRead => Sys2Proof.Machine.execTempRead s
  | .delay ms => Sys2Proof.Machine.execDelay ms s

end Sys2Proof.Machine
end

