-- ==== Sys2Proof/Machine/Sequencer.lean ====
section
/-! DEFINITION. The block's state machine: which frame or delay `PHASE` issues, what the step writes after it
(the transition tables of 41_config_packing.md R67 and 42_acquisition.md R81), and what the host presents. -/

namespace Sys2Proof.Machine

open Sys2Proof

/-- The frame or delay each phase issues (R67, R81); IDLE issues none. -/
def phaseInstr (s : State) : Option Instr :=
  match s.phase with
  | .idle => none
  | .iPre => some (.delay s.params.tInitPreMs)
  | .iRd => some .cfgRead
  | .iWr => some (.cfgWrite (packByte0 (latched s) s.cfgbuf0) (packByte1 (latched s) s.cfgbuf1))
  | .iPost => some (.delay s.params.tInitPostMs)
  | .rTrigRd => some .cfgRead
  | .rTrigWr => some (.cfgWrite (triggerByte0 s.cfgbuf0) s.cfgbuf1)
  | .rTrigDly => some (.delay s.params.tTrigMs)
  | .rPoll => some .cfgRead
  | .rTemp => some .tempRead

/-- R73: the mirror takes the latched options, all four together. -/
def commitMirror (s : State) : State :=
  { s with mOneshot := s.lOs, mPol := s.lPol, mRate := s.lRate, mTm := s.lTm }

/-- R90, R93: the cache and `RESULT` take the code just read. -/
def updateCache (s : State) : State :=
  let code := tempCode s.tbuf0 s.tbuf1
  { s with tcode := code, result := celsius32 code }

/-- R87, R88: after a poll that passed its count check, the OS bit first, then the limit. -/
def pollTest (s : State) : State :=
  if osSet s then { s with phase := .rTemp }
  else if pollLimitReached s then raisePollTimeout s
  else { s with phase := .rPoll }

/-- What a phase's step writes after its frame or delay passed. -/
def advance (ph : Phase) (s : State) : State :=
  match ph with
  | .idle => s
  | .iPre => { s with phase := .iRd }
  | .iRd => { s with phase := .iWr }
  | .iWr => { s with phase := .iPost }
  | .iPost => finishOk (commitMirror s)
  | .rTrigRd => { s with phase := if gateOpen s then .rTrigWr else .rTemp }
  | .rTrigWr => { s with phase := .rTrigDly }
  | .rTrigDly => { s with polls := 0, phase := .rPoll }
  | .rPoll => pollTest s
  | .rTemp => finishOk (updateCache s)

/-- R31, R87: the step of R_POLL counts its poll read, the one whose count check fails too.
DEDUCED: log 9. -/
def countPoll (ph : Phase) (s : State) : State :=
  if ph = .rPoll then { s with polls := s.polls + 1 } else s

/-- The rest of a phase's step: a raised error has already ended the command (`PHASE = IDLE`). -/
def afterPhase (ph : Phase) (s : State) : State :=
  let s := countPoll ph s
  if s.phase = .idle then s else advance ph s

/-- The word at the command port in this step (00_scope.md R4, log 1). -/
def presented (s : State) : Option Byte :=
  match s.host with
  | .issue w :: _ => if s.busy = 0 then some w else none
  | .force w :: _ => some w
  | .pass :: _ => none
  | [] => none

/-- The host's agenda after this step: a waiting host keeps its word while `BUSY = 1`. -/
def hostAfter (s : State) : State :=
  match s.host with
  | .issue _ :: rest => if s.busy = 0 then { s with host := rest } else s
  | .force _ :: rest => { s with host := rest }
  | .pass :: rest => { s with host := rest }
  | [] => s

/-- The state in which the block's next step runs the given instruction: a command word stands at the port
of an idle block; a frame or delay is issued by a phase of a running command. DESIGN CHOICE: log 8. -/
def placeInstr (i : Instr) (s : State) : State :=
  match i with
  | .cfgRead => { s with busy := 1, phase := .iRd, host := .pass :: s.host }
  | .cfgWrite d0 d1 =>
    { s with
      busy := 1, phase := .iWr, host := .pass :: s.host, cfgbuf0 := d0, cfgbuf1 := d1,
      lOs := d0.extractLsb' 0 1, lTm := d0.extractLsb' 1 1, lPol := d0.extractLsb' 2 1,
      lRate := d1.extractLsb' 6 2 }
  | .tempRead => { s with busy := 1, phase := .rTemp, host := .pass :: s.host }
  | .delay ms =>
    { s with
      busy := 1, host := .pass :: s.host,
      phase := if ms = s.params.tInitPreMs then .iPre else if ms = s.params.tInitPostMs then .iPost else .rTrigDly }
  | .init o p r t => { s with busy := 0, phase := .idle, host := .issue (initWord o p r t) :: s.host }
  | .read => { s with busy := 0, phase := .idle, host := .issue 0x40 :: s.host }
  | .getC => { s with busy := 0, phase := .idle, host := .issue 0x60 :: s.host }
  | .getF => { s with busy := 0, phase := .idle, host := .issue 0x61 :: s.host }
  | .getK => { s with busy := 0, phase := .idle, host := .issue 0x62 :: s.host }
  | .getR => { s with busy := 0, phase := .idle, host := .issue 0x63 :: s.host }

/-- The word at the port of an idle block, whatever it decodes to. -/
def placeWord (c : Byte) (s : State) : State :=
  { s with busy := 0, phase := .idle, host := .issue c :: s.host }

/-- What the executor is set up with at construction (00_scope.md R5, R12, R13). -/
def executorSetup (s : State) : BitVec 7 × U32 := (s.addr7, s.busFreqHz)

end Sys2Proof.Machine
end

