-- ==== Sys2Proof/Machine/Step.lean ====
section
/-! DEFINITION. One step of the machine: the word the host presents is carried out or refused; with no word
presented the running command's phase issues its frame or delay and moves on; an idle block waits. -/

namespace Sys2Proof.Machine

open Sys2Proof

/-- One step (10_state.md R27, 42_acquisition.md R81, 60_exceptions.md R116, R117). A presented word is a step of
its own (log 1); an idle block with nothing presented keeps its state (log 10). -/
def step (s : State) : Host.Outcome State Fault Refusal :=
  match presented s with
  | some w =>
    match decodeCommand w with
    | .ok i => exec i (hostAfter s)
    | .error _ => .next (refuse (hostAfter s))
  | none =>
    match phaseInstr s with
    | none => .next (hostAfter s)
    | some i =>
      match exec i (hostAfter s) with
      | .next t => .next (afterPhase s.phase t)
      | .fault f => .fault f
      | .refused r => .refused r

/-- `s` with the instruction of the table's word where the next step takes its instruction (log 8); a word the
decoder refuses stands at the command port. -/
def State.withFetchWord (s : State) (nbits w : Nat) : State :=
  match decodeTableWord nbits w with
  | some i => placeInstr i s
  | none => placeWord (BitVec.ofNat 8 w) s

end Sys2Proof.Machine
end

