-- ==== Sys2Proof/Machine/Pseudo.lean ====
section
/-! DEFINITION. Pseudo-instructions (30_encoding.md R57) and the assembler syntax (R56). A line is a list of
tokens: the mnemonic and the comma-separated operands, blanks and commas removed. DESIGN CHOICE: log 18. -/

namespace Sys2Proof.Machine

open Sys2Proof

/-- R57: what each pseudo-instruction expands to. -/
def expandPseudo (p : Config.Params) : Pseudo → List Instr
  | .initDefaults os =>
    [.init os p.defaultAlertPolarity ConversionRate.hz4.code ThermostatMode.comparator.code]
  | .readAsC => [.read, .getC]
  | .readAsF => [.read, .getF]
  | .readAsK => [.read, .getK]
  | .readAsR => [.read, .getR]

/-- R56: the operand spellings. -/
def oneShotToken (o : Bit) : String := if o = 0 then "oneshot=0" else "oneshot=1"
def polToken (p : Bit) : String := if p = 0 then "pol=low" else "pol=high"
def tmToken (t : Bit) : String := if t = 0 then "tm=comparator" else "tm=interrupt"
def rateToken (r : BitVec 2) : String :=
  match r with
  | 0#2 => "rate=0.25"
  | 1#2 => "rate=1"
  | 2#2 => "rate=4"
  | _ => "rate=8"

/-- R56: a code in the numeric form. -/
def codeToken (v : BitVec 2) : String :=
  match v with
  | 0#2 => "0"
  | 1#2 => "1"
  | 2#2 => "2"
  | _ => "3"

/-- R56: the tokens of a command's line; frames and delays have no syntax. -/
def asm : Instr → List String
  | .init o p r t => ["INIT", oneShotToken o, polToken p, rateToken r, tmToken t]
  | .read => ["READ"]
  | .getC => ["GET_C"]
  | .getF => ["GET_F"]
  | .getK => ["GET_K"]
  | .getR => ["GET_R"]
  | .cfgRead => []
  | .cfgWrite _ _ => []
  | .tempRead => []
  | .delay _ => []

/-- R56: "A numeric form `INIT o, p, r, t` with the four codes is accepted as the same instruction." -/
def asmNumeric : Instr → List String
  | .init o p r t => ["INIT", codeToken (o.setWidth 2), codeToken (p.setWidth 2), codeToken r, codeToken (t.setWidth 2)]
  | i => asm i

/-- Every command: the 32 INITs, READ and the four GETs. -/
def allCommands : List Instr :=
  ((List.range 32).map fun n =>
    let c := BitVec.ofNat 5 n
    Instr.init (c.extractLsb' 4 1) (c.extractLsb' 3 1) (c.extractLsb' 1 2) (c.extractLsb' 0 1)) ++
  [.read, .getC, .getF, .getK, .getR]

/-- R56: the command a line's tokens stand for. -/
def assemble (line : List String) : Option Instr :=
  if line.isEmpty then none else allCommands.find? fun i => asm i == line || asmNumeric i == line

/-- R57: the tokens of a pseudo-instruction's line. -/
def assemblePseudo (line : List String) : Option Pseudo :=
  if line = ["INIT_DEFAULTS", "oneshot=0"] then some (.initDefaults 0)
  else if line = ["INIT_DEFAULTS", "oneshot=1"] then some (.initDefaults 1)
  else if line = ["READ_AS_C"] then some .readAsC
  else if line = ["READ_AS_F"] then some .readAsF
  else if line = ["READ_AS_K"] then some .readAsK
  else if line = ["READ_AS_R"] then some .readAsR
  else none

end Sys2Proof.Machine
end

