-- ==== Sys2Proof/WellFormed.lean ====
section
/-! DEFINITION. What the spec requires of a parameter set and of an instruction's operands. -/

namespace Sys2Proof

/-- R8: `P_POLL_LIMIT` is none or a count N ≥ 1. Every other parameter admits every value of its type. -/
def Config.Params.wf (p : Config.Params) : Bool :=
  match p.pollLimit with
  | none => true
  | some n => decide (1 ≤ n)

/-- Every operand of a command or a frame is legal (30_encoding.md R52); a DELAY's operand is one of the
three lower bounds (40_bus_transactions.md R63). -/
def Instr.wf (p : Config.Params) : Instr → Bool
  | .delay ms => ms == p.tInitPreMs || ms == p.tInitPostMs || ms == p.tTrigMs
  | .init _ _ _ _ => true
  | .read => true
  | .getC => true
  | .getF => true
  | .getK => true
  | .getR => true
  | .cfgRead => true
  | .cfgWrite _ _ => true
  | .tempRead => true

end Sys2Proof
end

