-- ==== Sys2Proof/Safety.lean ====
section
/-! DEFINITION. The terms claims use: when a run is over and what is seen of it (70_reset_and_hazards.md R134), the
invariants of the block's control state, and the registers as its history determines them. -/

namespace Sys2Proof.Machine

open Sys2Proof

/-- The host's list still holds a command word. -/
def commandsLeft (host : List HostAct) : Bool :=
  host.any fun a =>
    match a with
    | .issue _ => true
    | .force _ => true
    | .pass => false

/-- R134: the host has issued its last command and the block is idle. Empty slots (`pass`), which only the model has,
are no commands: a run with nothing else left is over. DESIGN CHOICE, safe: log 1. -/
def State.runOver (s : State) : Bool := !commandsLeft s.host && ready s

/-- R134: "A run with `REFUSED = 1` is not a good run." -/
def State.goodRun (s : State) : Bool := s.refused == 0

/-- R134: the observable outcome of a run. -/
structure Observation where
  status : BitVec 2
  errExpected : U32
  errActual : U32
  result : U32
  tcode : Code
  mOneshot : Bit
  mPol : Bit
  mRate : BitVec 2
  mTm : Bit
  mFaults : BitVec 2
  refused : Bit
  hist : List Event
deriving DecidableEq, Repr

/-- R134 -/
def State.observe (s : State) : Observation where
  status := s.status
  errExpected := s.errExpected
  errActual := s.errActual
  result := s.result
  tcode := s.tcode
  mOneshot := s.mOneshot
  mPol := s.mPol
  mRate := s.mRate
  mTm := s.mTm
  mFaults := s.mFaults
  refused := s.refused
  hist := s.hist

/-- The host waits for `BUSY = 0` before its next command (R131): no word and no empty slot stands first. -/
def hostWaits (host : List HostAct) : Bool :=
  match host with
  | [] => true
  | .issue _ :: _ => true
  | .force _ :: _ => false
  | .pass :: _ => false

/-- The phases of INIT (R27). -/
def initPhase (ph : Phase) : Bool := ph == .iPre || ph == .iRd || ph == .iWr || ph == .iPost

/-- The phases of READ that only the one-shot handshake enters (R81, R82). -/
def handshakePhase (ph : Phase) : Bool := ph == .rTrigRd || ph == .rTrigWr || ph == .rTrigDly || ph == .rPoll

/-- The phases of READ (R27). -/
def readPhase (ph : Phase) : Bool := handshakePhase ph || ph == .rTemp

/-- The block's control state is consistent. -/
structure ControlInv (s : State) : Prop where
  /-- R22, R27: `BUSY` shows that a command runs -/
  busy_iff : s.busy = 1 ↔ s.phase ≠ .idle
  /-- R23: code 3 is never written -/
  status_legal : s.status ≠ 3
  /-- R82: the handshake runs only in one-shot mode -/
  handshake_one_shot : handshakePhase s.phase = true → s.mOneshot = 1
  /-- R12 -/
  addr_sel : s.addrSel = s.params.addrSel
  addr7 : s.addr7 = addr7Of s.addrSel
  /-- R13 -/
  bus_freq : s.busFreqHz = s.params.busFreqHz
  /-- R19: no command writes `M_FAULTS` -/
  faults : s.mFaults = 0
  /-- R88: a READ still polling has not reached its limit -/
  polls_below : s.params.wf = true → s.phase = .rPoll → ∀ n, s.params.pollLimit = some n → s.polls < n

/-- An event that `HIST` may hold: an accepted command's word, one of the three frames with its read bytes
(R66), one of the three delays (R63), a status that is written (R23). -/
def eventLegal (p : Config.Params) : Event → Bool
  | .cmd w => (decodeCommand w).isOk
  | .txn w rlen _ r => (decodeFrame w rlen).isOk && r.length == rlen
  | .wait ms => (Instr.delay ms).wf p
  | .done st => st != 3

/-- The cache after one more event: a temperature read whose count passes replaces it (R93, R94). -/
def cacheAfter (p : Config.Params) (code : Code) : Event → Code
  | .txn w _ n r =>
    if w = writeBytes .tempRead ∧ n = p.expTempRead then tempCode (r.getD 0 0) (r.getD 1 0) else code
  | .cmd _ => code
  | .wait _ => code
  | .done _ => code

/-- The code of the last temperature read of a history whose count passed, 0x000 if there was none
(42_acquisition.md R95). -/
def lastCode (p : Config.Params) (hist : List Event) : Code := hist.foldl (cacheAfter p) 0x000

/-- The registers a history determines. `running` is the command in progress: none, an INIT with its options, or
(`some none`) a READ; `expected` and `actual` are the counts of the last transaction. -/
structure Replay where
  running : Option (Option Options)
  expected : U32
  actual : U32
  mirror : Options
  tcode : Code
  status : BitVec 2
  errExpected : U32
  errActual : U32
  result : U32
deriving DecidableEq, Repr

/-- The registers after construction (R125), with no history. -/
def Replay.initial (p : Config.Params) : Replay where
  running := none
  expected := 0
  actual := 0
  mirror := ⟨0, p.defaultAlertPolarity, 2, 0⟩
  tcode := 0
  status := 0
  errExpected := 0
  errActual := 0
  result := 0

/-- How an accepted command changes them: INIT and READ start to run, a GET writes `RESULT` (R101 to R104). -/
def Replay.command (p : Config.Params) (m : Replay) : Instr → Replay
  | .init o pl r t => { m with running := some (some ⟨o, pl, r, t⟩) }
  | .read => { m with running := some none }
  | .getC => { m with result := celsius32 m.tcode }
  | .getF => { m with result := fahrenheit32 p.accessorArith m.tcode }
  | .getK => { m with result := kelvin32 p.accessorArith m.tcode }
  | .getR => { m with result := rankine32 p.accessorArith m.tcode }
  | .cfgRead => m
  | .cfgWrite _ _ => m
  | .tempRead => m
  | .delay _ => m

/-- How one event changes the registers, read from the rules of 10_state.md alone: the cache takes the code of a
passing temperature read (R20), a successful INIT sets the mirror (R14), a successful READ sets `RESULT` (R26), a
mismatch records the counts of the last transaction (R24, R25), and every `Done` sets `STATUS` (R23). -/
def Replay.feed (p : Config.Params) (m : Replay) : Event → Replay
  | .cmd w =>
    match decodeCommand w with
    | .ok i => m.command p i
    | .error _ => m
  | .txn w rlen n r =>
    match decodeFrame w rlen with
    | .ok .cfgRead => { m with expected := p.expCfgRead, actual := n }
    | .ok (.cfgWrite _ _) => { m with expected := p.expCfgWrite, actual := n }
    | .ok .tempRead =>
      { m with
        expected := p.expTempRead, actual := n
        tcode := if n = p.expTempRead then tempCode (r.getD 0 0) (r.getD 1 0) else m.tcode }
    | _ => m
  | .wait _ => m
  | .done st =>
    { m with
      running := none
      status := st
      mirror := if st = 0 then (m.running.getD none).getD m.mirror else m.mirror
      result := if st = 0 ∧ m.running = some none then celsius32 m.tcode else m.result
      errExpected := if st = 1 then m.expected else m.errExpected
      errActual := if st = 1 then m.actual else m.errActual }

/-- The registers after a history. -/
def replay (p : Config.Params) (hist : List Event) : Replay := hist.foldl (Replay.feed p) (.initial p)

/-- The command in progress, by `PHASE` and the latch. -/
def runningOf (s : State) : Option (Option Options) :=
  if s.phase = .idle then none else if initPhase s.phase then some (some (latched s)) else some none

/-- The block's registers are those its history determines. -/
structure FollowsHistory (s : State) : Prop where
  running : (replay s.params s.hist).running = runningOf s
  mirror : (replay s.params s.hist).mirror = ⟨s.mOneshot, s.mPol, s.mRate, s.mTm⟩
  tcode : (replay s.params s.hist).tcode = s.tcode
  status : (replay s.params s.hist).status = s.status
  err_expected : (replay s.params s.hist).errExpected = s.errExpected
  err_actual : (replay s.params s.hist).errActual = s.errActual
  result : (replay s.params s.hist).result = s.result

/-- `k` steps of the block. -/
abbrev runSteps (k : Nat) (s : State) : Host.Outcome State Fault Refusal := Host.Core.run core k s

/-- The state after one executor call recorded as `txn`: the event, and the answer taken. -/
def answered (s : State) (txn : Event) : State :=
  { s with
    answers := (takeAnswer s).answers, draws := (takeAnswer s).draws
    hist := s.hist ++ [txn] }

/-- The state after an executor call recorded as `txn` that failed its count check (60_exceptions.md R111),
every written element named. -/
def endedByMismatch (s : State) (txn : Event) (expected actual : U32) : State :=
  { s with
    answers := (takeAnswer s).answers, draws := (takeAnswer s).draws
    hist := s.hist ++ [txn, .done 1]
    errExpected := expected, errActual := actual
    status := 1, busy := 0, phase := .idle }

/-- The event of a configuration read (R60). -/
def cfgReadTxn (a : BusAnswer) : Event := .txn [0x01] 2 a.count [a.byte0, a.byte1]

/-- The event of a configuration write (R61). -/
def cfgWriteTxn (d0 d1 : Byte) (a : BusAnswer) : Event := .txn [0x01, d0, d1] 0 a.count []

/-- The event of a temperature read (R62). -/
def tempReadTxn (a : BusAnswer) : Event := .txn [0x00] 2 a.count [a.byte0, a.byte1]

/-- A poll answer that passes the count check and reads `OS = 0` (42_acquisition.md R87). -/
def notReady (p : Config.Params) (a : BusAnswer) : Prop := a.count = p.expCfgRead ∧ a.byte0.getLsbD 7 = false

/-- The number whose bit 0 is the least significant bit of the first byte. -/
def wordOfBytes : List Byte → Nat
  | [] => 0
  | b :: bs => b.toNat + 256 * wordOfBytes bs

/-- `s` without the elements no rule reads: `M_POL` (R16), `M_RATE` (R17), `M_TM` (R18), `M_FAULTS` (R19), `ADDR_SEL`
and `ADDR7` (R12), `BUS_FREQ_HZ` (R13). -/
def forgetUnread (s : State) : State :=
  { s with
    mPol := 0, mRate := 0, mTm := 0, mFaults := 0
    addrSel := .ground, addr7 := 0, busFreqHz := 0 }

/-- The instruction is one of the four accessors. -/
def isAccessor : Instr → Bool
  | .getC => true
  | .getF => true
  | .getK => true
  | .getR => true
  | .init _ _ _ _ => false
  | .read => false
  | .cfgRead => false
  | .cfgWrite _ _ => false
  | .tempRead => false
  | .delay _ => false

end Sys2Proof.Machine
end

