-- ==== Sys2Proof/Certificates/Slice0/Obligations.lean ====
section
/-! DEFINITION. The statements about the model, by the rules of spec/ they come from. "log n" is
notes/assumptions/n.md. `host`, `answers` and `draws` are the model's own fields (logs 1 and 2): a clause about one of them
is the model's choice and formalises no rule. -/

open Sys2Proof Sys2Proof.Machine

/-! ## Encodings (30_encoding.md) -/

/-- 95_test_vectors.md section 2.1 and R50: the words and frames written out, and what they stand for. -/
def Obligations.WordsDecodeAsTheVectorsSay : Prop :=
  decodeCommand 0x20#8 = .ok (.init 0 0 0 0) ∧ decodeCommand 0x24#8 = .ok (.init 0 0 2 0) ∧
  decodeCommand 0x2D#8 = .ok (.init 0 1 2 1) ∧ decodeCommand 0x34#8 = .ok (.init 1 0 2 0) ∧
  decodeCommand 0x3F#8 = .ok (.init 1 1 3 1) ∧ decodeCommand 0x40#8 = .ok .read ∧
  decodeCommand 0x60#8 = .ok .getC ∧ decodeCommand 0x61#8 = .ok .getF ∧
  decodeCommand 0x62#8 = .ok .getK ∧ decodeCommand 0x63#8 = .ok .getR ∧
  decodeFrame [0x01#8] 2 = .ok .cfgRead ∧ decodeFrame [0x00#8] 2 = .ok .tempRead ∧
  decodeFrame [0x01#8, 0x61#8, 0xA0#8] 0 = .ok (.cfgWrite 0x61 0xA0) ∧
  (∀ c ∈ [0x00#8, 0x1F#8, 0x41#8, 0x5F#8, 0x64#8, 0x7F#8, 0x80#8, 0xA4#8, 0xFF#8],
    (decodeCommand c).isOk = false)

/-- R52: every word 0x20 to 0x3F is an INIT, its fields the bits of the word with no extension or scaling, and an
idle block latches them. -/
def Obligations.EveryInitWordLatchesItsFields : Prop :=
  ∀ (c : Byte) (s : State), 0x20 ≤ c.toNat → c.toNat ≤ 0x3F → ready s = true →
    ∃ i t, decodeCommand c = .ok i ∧
      i = .init (c.extractLsb' 4 1) (c.extractLsb' 3 1) (c.extractLsb' 1 2) (c.extractLsb' 0 1) ∧
      exec i s = .next t ∧ t.lOs = c.extractLsb' 4 1 ∧ t.lPol = c.extractLsb' 3 1 ∧
      t.lRate = c.extractLsb' 1 2 ∧ t.lTm = c.extractLsb' 0 1

/-- R54, R55: the reserved words are 0x00 to 0x1F, 0x41 to 0x5F, 0x64 to 0x7F and 0x80 to 0xFF, 219 in all, and no
word matches two rows of the table. -/
def Obligations.ReservedWordsAreThoseNoRowMatches : Prop :=
  (∀ c : Byte, (decodeCommand c).isOk = false ↔
    c.toNat ≤ 0x1F ∨ (0x41 ≤ c.toNat ∧ c.toNat ≤ 0x5F) ∨ (0x64 ≤ c.toNat ∧ c.toNat ≤ 0x7F) ∨ 0x80 ≤ c.toNat) ∧
  ((List.range 256).countP fun n => !(decodeCommand (BitVec.ofNat 8 n)).isOk) = 219 ∧
  ∀ c : Byte, (commandRows.countP fun r => r.accepts c) ≤ 1

/-- R50 to R53, R55: for every instruction that has bytes, at every operand, decoding its bytes gives it back; and
what decodes is of the format asked for and encodes to the bytes it came from. -/
def Obligations.DecodeAndEncodeAgree : Prop :=
  (∀ i : Instr, i.format ≠ .delayEvent → decode i.format (encode i) = .ok i) ∧
  (∀ (f : Format) (w : List Byte) (i : Instr), decode f w = .ok i → i.format = f ∧ encode i = w)

/-- The table's numbering (opcode_table.json; logs 7 and 8, the model's own conventions): the number of an instruction's
bytes is read as that instruction, and placed where the block takes its next instruction it is the one that runs. -/
def Obligations.TableWordIsReadAndRun : Prop :=
  ∀ (s : State) (i : Instr), i.format ≠ .delayEvent →
    let nbits := 8 * (encode i).length
    let w := wordOfBytes (encode i)
    let u := s.withFetchWord nbits w
    decodeTableWord nbits w = some i ∧
    (∃ v, exec i (hostAfter u) = .next v ∧
      step u = .next (if i.format = .commandWord then v else afterPhase u.phase v)) ∧
    (hostAfter u).host = s.host ∧ u.hist = s.hist ∧ u.params = s.params ∧ u.answers = s.answers ∧
    u.tcode = s.tcode ∧ u.result = s.result ∧ u.status = s.status ∧ u.refused = s.refused

/-- R47, R57: each option value's code is its position in the source's list; the expansions of the pseudo-instructions and
the encodings of INIT_DEFAULTS. -/
def Obligations.OptionCodesAndPseudoExpansions : Prop :=
  (ConversionRate.hz0p25.code = 0 ∧ ConversionRate.hz1.code = 1 ∧ ConversionRate.hz4.code = 2 ∧
  ConversionRate.hz8.code = 3 ∧ ThermostatMode.comparator.code = 0 ∧ ThermostatMode.interrupt.code = 1 ∧
  AlertPolarity.activeLow.code = 0 ∧ AlertPolarity.activeHigh.code = 1 ∧
  ConsecutiveFaults.one.code = 0 ∧ ConsecutiveFaults.two.code = 1 ∧ ConsecutiveFaults.four.code = 2 ∧
  ConsecutiveFaults.six.code = 3) ∧
  ∀ p : Config.Params,
    expandPseudo p .readAsC = [.read, .getC] ∧ expandPseudo p .readAsF = [.read, .getF] ∧
    expandPseudo p .readAsK = [.read, .getK] ∧ expandPseudo p .readAsR = [.read, .getR] ∧
    (∀ os, expandPseudo p (.initDefaults os) = [.init os p.defaultAlertPolarity 2 0]) ∧
    (expandPseudo p (.initDefaults 0)).map encode = [[0x24#8 ||| (p.defaultAlertPolarity.setWidth 8 <<< 3)]] ∧
    (expandPseudo p (.initDefaults 1)).map encode = [[0x34#8 ||| (p.defaultAlertPolarity.setWidth 8 <<< 3)]]

/-- R56: every command's line, and INIT's numeric form, assemble to it; the two examples of the rule.
The token list is the model's own convention (log 18). -/
def Obligations.AssemblerReadsEveryCommand : Prop :=
  (∀ i : Instr, i.format = .commandWord → assemble (asm i) = some i ∧ assemble (asmNumeric i) = some i) ∧
  (assemble ["INIT", "oneshot=0", "pol=low", "rate=4", "tm=comparator"]).map encode = some [0x24] ∧
  (assemble ["INIT", "oneshot=1", "pol=low", "rate=4", "tm=comparator"]).map encode = some [0x34]

/-! ## The step (10_state.md R27, 60_exceptions.md R116, R117) -/

/-- A presented word that decodes is carried out by its instruction's meaning; else the running phase issues its
frame or delay and the step goes on from what that left; an idle block to which nothing is presented waits (log 10). -/
def Obligations.StepRunsTheDecodedInstruction : Prop :=
  ∀ s : State,
    (∀ w i, presented s = some w → decodeCommand w = .ok i → step s = exec i (hostAfter s)) ∧
    (∀ i t, presented s = none → phaseInstr s = some i → exec i (hostAfter s) = .next t →
      step s = .next (afterPhase s.phase t)) ∧
    (presented s = none → s.phase = .idle → step s = .next { s with host := (hostAfter s).host })

/-- R27, R67, R81: what each phase issues. -/
def Obligations.EachPhaseIssuesItsTransaction : Prop :=
  ∀ s : State,
    (s.phase = .iPre → phaseInstr s = some (.delay s.params.tInitPreMs)) ∧
    (s.phase = .iRd → phaseInstr s = some .cfgRead) ∧
    (s.phase = .iWr → phaseInstr s = some (.cfgWrite
      ((s.cfgbuf0 &&& 0xF8#8) ||| (s.lPol.setWidth 8 <<< 2) ||| (s.lTm.setWidth 8 <<< 1) ||| s.lOs.setWidth 8)
      ((s.cfgbuf1 &&& 0x3F#8) ||| (s.lRate.setWidth 8 <<< 6)))) ∧
    (s.phase = .iPost → phaseInstr s = some (.delay s.params.tInitPostMs)) ∧
    (s.phase = .rTrigRd → phaseInstr s = some .cfgRead) ∧
    (s.phase = .rTrigWr → phaseInstr s = some (.cfgWrite (s.cfgbuf0 ||| 0x80#8) s.cfgbuf1)) ∧
    (s.phase = .rTrigDly → phaseInstr s = some (.delay s.params.tTrigMs)) ∧
    (s.phase = .rPoll → phaseInstr s = some .cfgRead) ∧
    (s.phase = .rTemp → phaseInstr s = some .tempRead) ∧
    (s.phase = .idle → phaseInstr s = none)

/-- R116: a reserved word sets `REFUSED` and changes nothing else (the host's agenda moves on). -/
def Obligations.ReservedWordIsRefused : Prop :=
  ∀ (s : State) (w : Byte), presented s = some w → (decodeCommand w).isOk = false →
    step s = .next { s with host := (hostAfter s).host, refused := 1 }

/-- R117: a word presented while `BUSY = 1` sets `REFUSED`; the running command continues unaffected. -/
def Obligations.WordWhileBusyIsRefused : Prop :=
  (∀ (s : State) (i : Instr), i.format = .commandWord → s.busy = 1 → exec i s = .next { s with refused := 1 }) ∧
  (∀ (s : State) (w : Byte) (rest : List HostAct), s.busy = 1 → s.host = .force w :: rest →
    step s = .next { s with host := rest, refused := 1 })

/-- R131 (logs 1 and 2, the model's two lists): a host that waits has its word kept while `BUSY = 1` and presented when the
block is free, one that does not has its word presented at once; the executor's scripted answers are taken in order, and
taking one changes only the model's own fields. -/
def Obligations.HostAndExecutorListsAreServedInOrder : Prop :=
  (∀ (s t : State) (w : Byte) (rest : List HostAct), step s = .next t →
    (s.busy = 1 → s.host = .issue w :: rest → presented s = none ∧ t.host = s.host) ∧
    (s.busy = 0 → s.host = .issue w :: rest → presented s = some w ∧ t.host = rest) ∧
    (s.host = .force w :: rest → presented s = some w ∧ t.host = rest) ∧
    (s.host = .pass :: rest → presented s = none ∧ t.host = rest)) ∧
  ∀ s : State, takeAnswer s = { s with answers := (takeAnswer s).answers, draws := (takeAnswer s).draws } ∧
    ∀ a as, s.answers = a :: as → nextAnswer s = a ∧ takeAnswer s = { s with answers := as }

/-- R115, R118, R133: no step stops the machine. -/
def Obligations.EveryStepAnswersANextState : Prop :=
  ∀ s : State, ∃ t, step s = .next t

/-! ## Bus frames and the delay (40_bus_transactions.md) -/

/-- R60: CFG_READ. A passing count fills `CFGBUF`; any other ends the command with the mismatch. -/
def Obligations.CfgReadFillsCfgbufOrRaises : Prop :=
  ∀ s : State, let a := nextAnswer s
    (a.count = s.params.expCfgRead →
      exec .cfgRead s = .next { answered s (.txn [0x01] 2 a.count [a.byte0, a.byte1]) with
        cfgbuf0 := a.byte0, cfgbuf1 := a.byte1 }) ∧
    (a.count ≠ s.params.expCfgRead →
      exec .cfgRead s = .next (endedByMismatch s (.txn [0x01] 2 a.count [a.byte0, a.byte1])
        s.params.expCfgRead a.count))

/-- R61: CFG_WRITE(d0, d1). A passing count writes only `HIST`; any other ends the command with the mismatch. -/
def Obligations.CfgWriteSendsItsBytesOrRaises : Prop :=
  ∀ (s : State) (d0 d1 : Byte), let a := nextAnswer s
    (a.count = s.params.expCfgWrite →
      exec (.cfgWrite d0 d1) s = .next (answered s (.txn [0x01, d0, d1] 0 a.count []))) ∧
    (a.count ≠ s.params.expCfgWrite →
      exec (.cfgWrite d0 d1) s = .next (endedByMismatch s (.txn [0x01, d0, d1] 0 a.count [])
        s.params.expCfgWrite a.count))

/-- R62: TEMP_READ. A passing count fills `TBUF`; any other ends the command with the mismatch. -/
def Obligations.TempReadFillsTbufOrRaises : Prop :=
  ∀ s : State, let a := nextAnswer s
    (a.count = s.params.expTempRead →
      exec .tempRead s = .next { answered s (.txn [0x00] 2 a.count [a.byte0, a.byte1]) with
        tbuf0 := a.byte0, tbuf1 := a.byte1 }) ∧
    (a.count ≠ s.params.expTempRead →
      exec .tempRead s = .next (endedByMismatch s (.txn [0x00] 2 a.count [a.byte0, a.byte1])
        s.params.expTempRead a.count))

/-- R63: DELAY(ms) records `Wait(ms)` and writes nothing else. (Time is not modelled: R6, log 14.) -/
def Obligations.DelayRecordsItsLowerBound : Prop :=
  ∀ (s : State) (ms : U32), exec (.delay ms) s = .next { s with hist := s.hist ++ [.wait ms] }

/-- R64: the check is exact equality, a failed transaction is not retried (one event and the `Done`), and its bytes are
not used. -/
def Obligations.CountCheckIsExactEquality : Prop :=
  ∀ (s t : State) (i : Instr) (expected : U32), s.phase ≠ .idle →
    ((i = .cfgRead ∧ expected = s.params.expCfgRead) ∨ (∃ d0 d1, i = .cfgWrite d0 d1 ∧ expected = s.params.expCfgWrite) ∨
      (i = .tempRead ∧ expected = s.params.expTempRead)) →
    exec i s = .next t →
    ((nextAnswer s).count = expected ↔ t.phase = s.phase) ∧
    ((nextAnswer s).count = expected → ∃ e, t.hist = s.hist ++ [e]) ∧
    ((nextAnswer s).count ≠ expected →
      (∃ e, t.hist = s.hist ++ [e, .done 1]) ∧ t.cfgbuf0 = s.cfgbuf0 ∧ t.cfgbuf1 = s.cfgbuf1 ∧
      t.tbuf0 = s.tbuf0 ∧ t.tbuf1 = s.tbuf1)

/-! ## INIT (41_config_packing.md) -/

/-- R67 and R80, accept: an idle block is busy and records the command; INIT latches its options and enters I_PRE, READ takes
the path `M_ONESHOT` selects. -/
def Obligations.InitAndReadAreAcceptedWhenIdle : Prop :=
  (∀ (s : State) (o p : Bit) (r : BitVec 2) (t : Bit), ready s = true →
    exec (.init o p r t) s = .next { s with
      lOs := o, lPol := p, lRate := r, lTm := t, busy := 1, phase := .iPre
      hist := s.hist ++ [.cmd (0b001#3 ++ o ++ p ++ r ++ t)] }) ∧
  (∀ s : State, ready s = true →
    (s.mOneshot = 1 → exec .read s = .next { s with
      busy := 1, phase := .rTrigRd, hist := s.hist ++ [.cmd 0x40] }) ∧
    (s.mOneshot = 0 → exec .read s = .next { s with
      busy := 1, phase := .rTemp, hist := s.hist ++ [.cmd 0x40] }))

/-- R70, R71: the new byte0 has exactly the three option bits replaced, the new byte1 its top two bits. -/
def Obligations.PackingReplacesOnlyTheOptionBits : Prop :=
  ∀ (o : Options) (b0 b1 : Byte),
    packByte0 o b0 = (b0 &&& 0xF8#8) ||| (o.pol.setWidth 8 <<< 2) ||| (o.tm.setWidth 8 <<< 1) ||| o.os.setWidth 8 ∧
    (packByte0 o b0).extractLsb' 0 1 = o.os ∧ (packByte0 o b0).extractLsb' 1 1 = o.tm ∧
    (packByte0 o b0).extractLsb' 2 1 = o.pol ∧ (packByte0 o b0).extractLsb' 3 5 = b0.extractLsb' 3 5 ∧
    packByte1 o b1 = (b1 &&& 0x3F#8) ||| (o.rate.setWidth 8 <<< 6) ∧
    (packByte1 o b1).extractLsb' 6 2 = o.rate ∧ (packByte1 o b1).extractLsb' 0 6 = b1.extractLsb' 0 6

/-- R75, which the spec marks derived from R70 and R71: packing round-trips, preserves every other bit, is idempotent, and leaves bytes that hold the options. -/
def Obligations.PackingIsAnIdempotentReadModifyWrite : Prop :=
  ∀ (o : Options) (b0 b1 : Byte), let d0 := packByte0 o b0; let d1 := packByte1 o b1
    (d0.extractLsb' 0 1 = o.os ∧ d0.extractLsb' 1 1 = o.tm ∧ d0.extractLsb' 2 1 = o.pol ∧
      d1.extractLsb' 6 2 = o.rate) ∧
    (d0.extractLsb' 3 5 = b0.extractLsb' 3 5 ∧ d1.extractLsb' 0 6 = b1.extractLsb' 0 6) ∧
    (packByte0 o d0 = d0 ∧ packByte1 o d1 = d1) ∧
    (b0.extractLsb' 0 1 = o.os → b0.extractLsb' 1 1 = o.tm → b0.extractLsb' 2 1 = o.pol →
      b1.extractLsb' 6 2 = o.rate → d0 = b0 ∧ d1 = b1)

/-- R67, R68, R69, R72, R73, R110: an INIT whose two transactions pass ends in five steps with `STATUS = OK` and the
mirror committed; the events in order; every other element as before. -/
def Obligations.InitCompletesInFiveSteps : Prop :=
  ∀ (s : State) (o p : Bit) (r : BitVec 2) (t : Bit) (rest : List HostAct) (rd wr : BusAnswer) (as : List BusAnswer),
    ready s = true → s.host = .issue (initWord o p r t) :: rest → hostWaits rest = true →
    s.answers = rd :: wr :: as → rd.count = s.params.expCfgRead → wr.count = s.params.expCfgWrite →
    runSteps 5 s = .next { s with
      host := rest, answers := as
      lOs := o, lPol := p, lRate := r, lTm := t, cfgbuf0 := rd.byte0, cfgbuf1 := rd.byte1
      mOneshot := o, mPol := p, mRate := r, mTm := t, status := 0
      hist := s.hist ++ [.cmd (initWord o p r t), .wait s.params.tInitPreMs, cfgReadTxn rd,
        cfgWriteTxn (packByte0 ⟨o, p, r, t⟩ rd.byte0) (packByte1 ⟨o, p, r, t⟩ rd.byte1) wr,
        .wait s.params.tInitPostMs, .done 0] }

/-- R69, R72, R74: an INIT whose configuration read fails ends there, with one `Wait`, one `Txn` and no write; one whose write
fails ends there, with no second delay; the mirror, `TCODE` and `RESULT` are unchanged. -/
def Obligations.FailedInitEndsAtOnce : Prop :=
  (∀ (s : State) (o p : Bit) (r : BitVec 2) (t : Bit) (rest : List HostAct) (rd : BusAnswer) (as : List BusAnswer),
    ready s = true → s.host = .issue (initWord o p r t) :: rest → hostWaits rest = true →
    s.answers = rd :: as → rd.count ≠ s.params.expCfgRead →
    runSteps 3 s = .next { s with
      host := rest, answers := as, lOs := o, lPol := p, lRate := r, lTm := t
      status := 1, errExpected := s.params.expCfgRead, errActual := rd.count
      hist := s.hist ++ [.cmd (initWord o p r t), .wait s.params.tInitPreMs, cfgReadTxn rd, .done 1] }) ∧
  (∀ (s : State) (o p : Bit) (r : BitVec 2) (t : Bit) (rest : List HostAct) (rd wr : BusAnswer) (as : List BusAnswer),
    ready s = true → s.host = .issue (initWord o p r t) :: rest → hostWaits rest = true →
    s.answers = rd :: wr :: as → rd.count = s.params.expCfgRead → wr.count ≠ s.params.expCfgWrite →
    runSteps 4 s = .next { s with
      host := rest, answers := as
      lOs := o, lPol := p, lRate := r, lTm := t, cfgbuf0 := rd.byte0, cfgbuf1 := rd.byte1
      status := 1, errExpected := s.params.expCfgWrite, errActual := wr.count
      hist := s.hist ++ [.cmd (initWord o p r t), .wait s.params.tInitPreMs, cfgReadTxn rd,
        cfgWriteTxn (packByte0 ⟨o, p, r, t⟩ rd.byte0) (packByte1 ⟨o, p, r, t⟩ rd.byte1) wr, .done 1] })

/-- R73, R110: INIT's last step is the settling delay, the commit of the four mirror fields and `finish(ok)`. -/
def Obligations.InitLastStepCommitsTheMirror : Prop :=
  ∀ s : State, presented s = none → s.phase = .iPost →
    step s = .next { s with
      host := (hostAfter s).host
      mOneshot := s.lOs, mPol := s.lPol, mRate := s.lRate, mTm := s.lTm
      status := 0, busy := 0, phase := .idle
      hist := s.hist ++ [.wait s.params.tInitPostMs, .done 0] }

/-- R14: the mirror is written only by the final step of an INIT that completes with OK, all four fields together, and
`M_FAULTS` by no step. -/
def Obligations.OnlyASuccessfulInitWritesTheMirror : Prop :=
  ∀ s t : State, step s = .next t →
    t.mFaults = s.mFaults ∧
    ((t.mOneshot = s.mOneshot ∧ t.mPol = s.mPol ∧ t.mRate = s.mRate ∧ t.mTm = s.mTm) ∨
     (s.phase = .iPost ∧ t.phase = .idle ∧ t.status = 0 ∧
      t.mOneshot = s.lOs ∧ t.mPol = s.lPol ∧ t.mRate = s.lRate ∧ t.mTm = s.lTm))

/-! ## READ (42_acquisition.md) -/

/-- R82, R93: in free-running mode READ performs exactly one transaction, the temperature read; when it passes, READ caches the code and
writes its Celsius value to `RESULT`. -/
def Obligations.FreeRunningReadIsOneTransaction : Prop :=
  ∀ (s : State) (rest : List HostAct) (a : BusAnswer) (as : List BusAnswer),
    ready s = true → s.mOneshot = 0 → s.host = .issue 0x40 :: rest → hostWaits rest = true →
    s.answers = a :: as → a.count = s.params.expTempRead →
    runSteps 2 s = .next { s with
      host := rest, answers := as, tbuf0 := a.byte0, tbuf1 := a.byte1
      tcode := tempCode a.byte0 a.byte1, result := celsius32 (tempCode a.byte0 a.byte1), status := 0
      hist := s.hist ++ [.cmd 0x40, tempReadTxn a, .done 0] }

/-- R83 to R89, R93: the whole one-shot handshake, for every number of polls that read `OS = 0` before the one that reads
1: gate read, trigger write with the OS bit set, delay, the polls, the temperature read; the events in order; the state it
leaves. -/
def Obligations.OneShotReadCompletesAfterItsPolls : Prop :=
  ∀ (s : State) (rest : List HostAct) (gate wr rdy temp : BusAnswer) (polls as : List BusAnswer),
    ready s = true → s.mOneshot = 1 → s.host = .issue 0x40 :: rest → hostWaits rest = true →
    s.answers = gate :: wr :: (polls ++ rdy :: temp :: as) →
    gate.count = s.params.expCfgRead → gate.byte0.getLsbD s.params.gateBit.index = true →
    wr.count = s.params.expCfgWrite → (∀ a ∈ polls, notReady s.params a) →
    rdy.count = s.params.expCfgRead → rdy.byte0.getLsbD 7 = true → temp.count = s.params.expTempRead →
    (∀ n, s.params.pollLimit = some n → polls.length < n) →
    runSteps (polls.length + 6) s = .next { s with
      host := rest, answers := as, cfgbuf0 := rdy.byte0, cfgbuf1 := rdy.byte1
      tbuf0 := temp.byte0, tbuf1 := temp.byte1, polls := polls.length + 1
      tcode := tempCode temp.byte0 temp.byte1, result := celsius32 (tempCode temp.byte0 temp.byte1), status := 0
      hist := s.hist ++ [.cmd 0x40, cfgReadTxn gate, cfgWriteTxn (gate.byte0 ||| 0x80#8) gate.byte1 wr,
        .wait s.params.tTrigMs] ++ polls.map cfgReadTxn ++ [cfgReadTxn rdy, tempReadTxn temp, .done 0] }

/-- R85, with the steps of R83: the gate read. A set gate bit leads to the trigger write; a clear one straight to the temperature read; a
mismatch ends READ with the cache unchanged. -/
def Obligations.GateReadSelectsTriggerOrTemperature : Prop :=
  ∀ s : State, presented s = none → s.phase = .rTrigRd →
    let a := nextAnswer s
    let u := { answered s (cfgReadTxn a) with
      host := (hostAfter s).host, cfgbuf0 := a.byte0, cfgbuf1 := a.byte1 }
    (a.count = s.params.expCfgRead → a.byte0.getLsbD s.params.gateBit.index = true →
      step s = .next { u with phase := .rTrigWr }) ∧
    (a.count = s.params.expCfgRead → a.byte0.getLsbD s.params.gateBit.index = false →
      step s = .next { u with phase := .rTemp }) ∧
    (a.count ≠ s.params.expCfgRead →
      step s = .next { endedByMismatch s (cfgReadTxn a) s.params.expCfgRead a.count with host := (hostAfter s).host })

/-- R84, R86: the trigger write sends the bytes read with the OS bit set, every other bit as read; a mismatch ends READ with
no delay and no poll; the delay after a passing write clears the poll count and enters the poll. -/
def Obligations.TriggerSetsOnlyTheOsBitThenWaits : Prop :=
  (∀ s : State, presented s = none → s.phase = .rTrigWr →
    let a := nextAnswer s
    (a.count = s.params.expCfgWrite →
      step s = .next { answered s (cfgWriteTxn (s.cfgbuf0 ||| 0x80#8) s.cfgbuf1 a) with
        host := (hostAfter s).host, phase := .rTrigDly }) ∧
    (a.count ≠ s.params.expCfgWrite →
      step s = .next { endedByMismatch s (cfgWriteTxn (s.cfgbuf0 ||| 0x80#8) s.cfgbuf1 a)
        s.params.expCfgWrite a.count with host := (hostAfter s).host })) ∧
  (∀ b : Byte, (b ||| 0x80#8).getLsbD 7 = true ∧ (b ||| 0x80#8).extractLsb' 0 7 = b.extractLsb' 0 7) ∧
  (∀ s : State, presented s = none → s.phase = .rTrigDly →
    step s = .next { s with
      host := (hostAfter s).host, polls := 0, phase := .rPoll, hist := s.hist ++ [.wait s.params.tTrigMs] })

/-- R87, R112, R114: one poll. The count check first, then the OS bit, then the limit; the poll is counted. (That a poll
whose count fails is counted too is the reading of log 9.) -/
def Obligations.PollTestsCountThenOsThenLimit : Prop :=
  ∀ s : State, presented s = none → s.phase = .rPoll →
    let a := nextAnswer s
    let u := { answered s (cfgReadTxn a) with
      host := (hostAfter s).host, cfgbuf0 := a.byte0, cfgbuf1 := a.byte1, polls := s.polls + 1 }
    (a.count ≠ s.params.expCfgRead →
      step s = .next { endedByMismatch s (cfgReadTxn a) s.params.expCfgRead a.count with
        host := (hostAfter s).host, polls := s.polls + 1 }) ∧
    (a.count = s.params.expCfgRead → a.byte0.getLsbD 7 = true → step s = .next { u with phase := .rTemp }) ∧
    (notReady s.params a → (∃ n, s.params.pollLimit = some n ∧ n ≤ s.polls + 1) →
      step s = .next { u with
        status := 2, busy := 0, phase := .idle, hist := s.hist ++ [cfgReadTxn a, .done 2] }) ∧
    (notReady s.params a → (∀ n, s.params.pollLimit = some n → s.polls + 1 < n) → step s = .next u)

/-- R88, R112: without a limit, for every number of answers that read `OS = 0` the block is still polling after as many steps,
one configuration read each; with `P_POLL_LIMIT = N` the N-th such poll ends READ with `PollTimeout`, and `ERR_*`, `TCODE` and
`RESULT` keep their values. -/
def Obligations.PollRunsOnUntilItsLimit : Prop :=
  (∀ (s : State) (polls as : List BusAnswer), s.busy = 1 → s.phase = .rPoll → hostWaits s.host = true →
    s.params.pollLimit = none → s.answers = polls ++ as → (∀ a ∈ polls, notReady s.params a) →
    ∃ t, runSteps polls.length s = .next t ∧ t.phase = .rPoll ∧ t.busy = 1 ∧ t.polls = s.polls + polls.length ∧
      t.hist = s.hist ++ polls.map cfgReadTxn ∧ t.answers = as ∧ t.status = s.status) ∧
  (∀ (s : State) (polls as : List BusAnswer), s.busy = 1 → s.phase = .rPoll → s.polls = 0 →
    hostWaits s.host = true → s.params.pollLimit = some polls.length → 1 ≤ polls.length →
    s.answers = polls ++ as → (∀ a ∈ polls, notReady s.params a) →
    ∃ b0 b1, runSteps polls.length s = .next { s with
      answers := as, cfgbuf0 := b0, cfgbuf1 := b1, polls := polls.length
      status := 2, busy := 0, phase := .idle, hist := s.hist ++ polls.map cfgReadTxn ++ [.done 2] })

/-- R89, R93, R110: the temperature read. A passing one caches the code, writes `RESULT` and ends with OK, `ERR_*` kept; a
mismatch leaves the cache and `RESULT`. -/
def Obligations.TemperatureReadUpdatesTheCache : Prop :=
  ∀ s : State, presented s = none → s.phase = .rTemp →
    let a := nextAnswer s
    (a.count = s.params.expTempRead →
      step s = .next { answered s (tempReadTxn a) with
        host := (hostAfter s).host, tbuf0 := a.byte0, tbuf1 := a.byte1
        tcode := tempCode a.byte0 a.byte1, result := celsius32 (tempCode a.byte0 a.byte1)
        status := 0, busy := 0, phase := .idle, hist := s.hist ++ [tempReadTxn a, .done 0] }) ∧
    (a.count ≠ s.params.expTempRead →
      step s = .next { endedByMismatch s (tempReadTxn a) s.params.expTempRead a.count with
        host := (hostAfter s).host })

/-- R20, R94: `TCODE` is written only by the last step of a READ whose temperature transaction passed its count check, and is
0x000 at reset; a READ that ends with any error writes neither `TCODE` nor `RESULT`. -/
def Obligations.OnlyAPassingTemperatureReadWritesTcode : Prop :=
  (∀ s t : State, step s = .next t → t.tcode ≠ s.tcode →
    s.phase = .rTemp ∧ (nextAnswer s).count = s.params.expTempRead ∧
    t.tcode = tempCode (nextAnswer s).byte0 (nextAnswer s).byte1 ∧ t.phase = .idle ∧ t.status = 0) ∧
  (∀ p : Config.Params, (State.construct p).tcode = 0x000) ∧
  (∀ (s t : State) (es : List Event) (st : BitVec 2), readPhase s.phase = true → presented s = none →
    step s = .next t → t.hist = s.hist ++ es ++ [.done st] → st ≠ 0 →
    t.tcode = s.tcode ∧ t.result = s.result)

/-- R95, which the spec marks derived from R20, R93 and R94: every step keeps "TCODE is the code of the last TEMP_READ since reset whose count check passed, or 0x000 if there
was none", and construction establishes it. -/
def Obligations.CacheIsTheLastPassingTemperatureRead : Prop :=
  (∀ s t : State, s.tcode = lastCode s.params s.hist → step s = .next t → t.tcode = lastCode t.params t.hist) ∧
  (∀ p : Config.Params, (State.construct p).tcode = lastCode p (State.construct p).hist)

/-! ## The temperature code and its value -/

/-- R49, R90: `code[11:4]` is byte0 and `code[3:0]` the high nibble of byte1; the low nibble has no effect; the sign bit is
byte0's top bit. -/
def Obligations.CodeIsTheTopTwelveBits : Prop :=
  ∀ b0 b1 : Byte,
    tempCode b0 b1 = (b0.setWidth 12 <<< 4) ||| (b1 >>> 4).setWidth 12 ∧
    (tempCode b0 b1).extractLsb' 4 8 = b0 ∧ (tempCode b0 b1).extractLsb' 0 4 = b1.extractLsb' 4 4 ∧
    tempCode b0 b1 = (b0 ++ b1).extractLsb' 4 12 ∧ tempCode b0 (b1 &&& 0xF0#8) = tempCode b0 b1 ∧
    (tempCode b0 b1).msb = b0.msb ∧ -2048 ≤ (tempCode b0 b1).toInt ∧ (tempCode b0 b1).toInt ≤ 2047

/-- R91, R21 (which the spec marks derived), and the source's decode table (95_test_vectors.md section 1.1): sign extension, then 0.0625 per LSB; the range;
`RESULT`'s pattern denotes the value exactly; the view is one-to-one and 0.0 at reset. -/
def Obligations.CelsiusIsTheSignedCodeOverSixteen : Prop :=
  (∀ c : Code,
    celsius c = (if c.getLsbD 11 = true then (c.toNat : Rat) - 4096 else (c.toNat : Rat)) * (1 / 16) ∧
    celsius c = ((c.signExtend 16).toInt : Rat) / 16 ∧ -128 ≤ celsius c ∧ celsius c ≤ 2047 / 16 ∧
    finite32 (celsius32 c) = true ∧ value32 (celsius32 c) = celsius c) ∧
  celsius32 0x000 = 0x00000000 ∧ celsius32 0x05A = 0x40B40000 ∧ celsius32 0x0C9 = 0x41490000 ∧
  celsius32 0x800 = 0xC3000000 ∧ celsius32 0xFFF = 0xBD800000 ∧ celsius32 0xF00 = 0xC1800000 ∧
  (∀ c d : Code, celsius c = celsius d → c = d) ∧
  (∀ p : Config.Params, celsius (State.construct p).tcode = 0)

/-- R92, which the spec marks derived from R91: the magnitude identity, and the inverse from a value to its code and to the bytes that carry it. -/
def Obligations.MagnitudeIdentityAndInverse : Prop :=
  (∀ c : Code, c.getLsbD 11 = true →
    (~~~(c - 1#12)).toNat = 4096 - c.toNat ∧ magnitude c = ~~~(c - 1#12) ∧
    celsius c = -(((magnitude c).toNat : Rat) * (1 / 16))) ∧
  (∀ c : Code, c.getLsbD 11 = false → magnitude c = c ∧ celsius c = ((magnitude c).toNat : Rat) * (1 / 16)) ∧
  (∀ c : Code, codeOfCelsius (celsius c) = c) ∧
  (∀ (c : Code) (low : BitVec 4), tempCode (bytesOfCode c low).1 (bytesOfCode c low).2 = c)

/-! ## Binary32 and the accessors (43_unit_accessors.md) -/

/-- `rnd32` of 00_scope.md R9, which the spec marks as general knowledge (log 13): of all finite patterns the result is a nearest one, and of two nearest values the one with an
even last bit. -/
def Obligations.RoundingIsToNearestTiesToEven : Prop :=
  ∀ q : Rat, |q| ≤ value32 0x7F7FFFFF →
    finite32 (rnd32 q) = true ∧
    ∀ x : U32, finite32 x = true →
      |value32 (rnd32 q) - q| ≤ |value32 x - q| ∧
      (|value32 (rnd32 q) - q| = |value32 x - q| → value32 x ≠ value32 (rnd32 q) → (rnd32 q).getLsbD 0 = false)

/-- R100: the constants of the formulas, and that `C *f 9` is exact for every code. -/
def Obligations.AccessorConstantsAreTheSpecs : Prop :=
  rnd32 (27315 / 100) = 0x43889333 ∧ k273 = 0x43889333 ∧ value32 0x43889333 = 8950579 / 32768 ∧
  c9 = rnd32 9 ∧ c5 = rnd32 5 ∧ c32 = rnd32 32 ∧ value32 c9 = 9 ∧ value32 c5 = 5 ∧ value32 c32 = 32 ∧
  ∀ c : Code, value32 (mul32 (celsius32 c) c9) = celsius c * 9

/-- R101: GET_C. -/
def Obligations.GetCWritesTheCelsiusValue : Prop :=
  (∀ s : State, ready s = true →
    exec .getC s = .next { s with result := rnd32 (celsius s.tcode), hist := s.hist ++ [.cmd 0x60] }) ∧
  (∀ c : Code, rnd32 (celsius c) ≠ 0x80000000) ∧ rnd32 (celsius 0x000) = 0x00000000 ∧
  rnd32 (celsius 0xFFF) = 0xBD800000

/-- R102: GET_F under the two arithmetics of R100. -/
def Obligations.GetFWritesTheFahrenheitValue : Prop :=
  (∀ s : State, ready s = true →
    (s.params.accessorArith = .leftToRight → exec .getF s = .next { s with
      result := add32 (div32 (mul32 (rnd32 (celsius s.tcode)) (rnd32 9)) (rnd32 5)) (rnd32 32)
      hist := s.hist ++ [.cmd 0x61] }) ∧
    (s.params.accessorArith = .exactThenRound → exec .getF s = .next { s with
      result := rnd32 (celsius s.tcode * 9 / 5 + 32), hist := s.hist ++ [.cmd 0x61] })) ∧
  (∀ c : Code, value32 0xC3466666 ≤ value32 (fahrenheit32 .leftToRight c) ∧
    value32 (fahrenheit32 .leftToRight c) ≤ value32 0x438324CD) ∧
  fahrenheit32 .leftToRight 0x000 = 0x42000000 ∧ fahrenheit32 .leftToRight 0x640 = 0x43540000 ∧
  fahrenheit32 .leftToRight 0xD80 = 0xC2200000 ∧ fahrenheit32 .leftToRight 0xF00 = 0x404CCCD0 ∧
  fahrenheit32 .leftToRight 0x190 = 0x429A0000

/-- R103: GET_K under the two arithmetics of R100. -/
def Obligations.GetKWritesTheKelvinValue : Prop :=
  (∀ s : State, ready s = true →
    (s.params.accessorArith = .leftToRight → exec .getK s = .next { s with
      result := add32 (rnd32 (celsius s.tcode)) 0x43889333, hist := s.hist ++ [.cmd 0x62] }) ∧
    (s.params.accessorArith = .exactThenRound → exec .getK s = .next { s with
      result := rnd32 (celsius s.tcode + 27315 / 100), hist := s.hist ++ [.cmd 0x62] })) ∧
  (∀ c : Code, value32 0x43112666 ≤ value32 (kelvin32 .leftToRight c) ∧
    value32 (kelvin32 .leftToRight c) ≤ value32 0x43C88B33) ∧
  kelvin32 .leftToRight 0x000 = 0x43889333 ∧ kelvin32 .leftToRight 0x190 = 0x43951333

/-- R104: GET_R under the two arithmetics of R100. -/
def Obligations.GetRWritesTheRankineValue : Prop :=
  (∀ s : State, ready s = true →
    (s.params.accessorArith = .leftToRight → exec .getR s = .next { s with
      result := div32 (mul32 (add32 (rnd32 (celsius s.tcode)) 0x43889333) (rnd32 9)) (rnd32 5)
      hist := s.hist ++ [.cmd 0x63] }) ∧
    (s.params.accessorArith = .exactThenRound → exec .getR s = .next { s with
      result := rnd32 ((celsius s.tcode + 27315 / 100) * 9 / 5), hist := s.hist ++ [.cmd 0x63] })) ∧
  rankine32 .leftToRight 0x000 = 0x43F5D5C2 ∧ rankine32 .leftToRight 0x190 = 0x44062AE1

/-- R105, which the spec marks derived from R100 to R104: the source's properties hold under both arithmetics; a GET leaves everything but `RESULT` and `HIST`, and never
changes what a later GET returns. -/
def Obligations.AccessorsArePure : Prop :=
  (∀ a : AccessorArith, fahrenheit32 a 0x000 = 0x42000000 ∧ fahrenheit32 a 0x640 = 0x43540000 ∧
    kelvin32 a 0x000 = 0x43889333) ∧
  (∀ (s t u v : State) (i j : Instr), isAccessor i = true → isAccessor j = true → ready s = true →
    exec i s = .next t → exec j t = .next u → exec j s = .next v →
    t = { s with result := t.result, hist := t.hist } ∧ (∃ c, t.hist = s.hist ++ [.cmd c]) ∧ u.result = v.result)

/-- 95_test_vectors.md section 2.5: over all 4096 codes the two arithmetics agree on GET_K, and differ on 484 codes of GET_F
and 1921 of GET_R. -/
def Obligations.ArithmeticsDifferWhereTheSpecSays : Prop :=
  (∀ c : Code, kelvin32 .leftToRight c = kelvin32 .exactThenRound c) ∧
  ((List.range 4096).countP fun n =>
    fahrenheit32 .leftToRight (BitVec.ofNat 12 n) != fahrenheit32 .exactThenRound (BitVec.ofNat 12 n)) = 484 ∧
  ((List.range 4096).countP fun n =>
    rankine32 .leftToRight (BitVec.ofNat 12 n) != rankine32 .exactThenRound (BitVec.ofNat 12 n)) = 1921

/-! ## Errors and whole-machine rules (60_exceptions.md, 00_scope.md, 10_state.md) -/

/-- R111: a failed count check in any of the six transaction phases ends the command in that step; everything written is
named. (POLLS is excepted in R_POLL, where it stays or grows by one, because the spec's texts differ on it: log 9.) -/
def Obligations.MismatchEndsTheCommandAtOnce : Prop :=
  ∀ (s : State) (i : Instr) (txn : Event) (expected : U32), presented s = none → phaseInstr s = some i →
    ((i = .cfgRead ∧ txn = cfgReadTxn (nextAnswer s) ∧ expected = s.params.expCfgRead) ∨
     (∃ d0 d1, i = .cfgWrite d0 d1 ∧ txn = cfgWriteTxn d0 d1 (nextAnswer s) ∧ expected = s.params.expCfgWrite) ∨
     (i = .tempRead ∧ txn = tempReadTxn (nextAnswer s) ∧ expected = s.params.expTempRead)) →
    (nextAnswer s).count ≠ expected →
    ∃ polls, (polls = s.polls ∨ (s.phase = .rPoll ∧ polls = s.polls + 1)) ∧
      step s = .next { endedByMismatch s txn expected (nextAnswer s).count with
        host := (hostAfter s).host, polls := polls }

/-- R7: while a command runs the result port shows the values it held before. -/
def Obligations.ResultPortIsWrittenOnlyInTheFinalStep : Prop :=
  ∀ s t : State, step s = .next t → t.busy = 1 →
    t.status = s.status ∧ t.errExpected = s.errExpected ∧ t.errActual = s.errActual ∧ t.result = s.result

/-- R32: `REFUSED` is 0 at reset and no step clears it; a step that sets it was given a reserved word, or a word while the
block was not ready, and changes nothing else. -/
def Obligations.RefusedIsStickyAndSetOnlyByRefusal : Prop :=
  ∀ s t : State, step s = .next t →
    (s.refused = 1 → t.refused = 1) ∧
    (t.refused ≠ s.refused → t = { s with host := t.host, refused := 1 } ∧
      ∃ w, presented s = some w ∧ ((decodeCommand w).isOk = false ∨ ready s = false)) ∧
    ∀ p : Config.Params, (State.construct p).refused = 0

/-- R12, R13, R19, R8, R120: no step writes the construction constants, the parameters or `M_FAULTS`. -/
def Obligations.NoStepWritesTheConstants : Prop :=
  ∀ s t : State, step s = .next t →
    t.params = s.params ∧ t.addrSel = s.addrSel ∧ t.addr7 = s.addr7 ∧ t.busFreqHz = s.busFreqHz ∧
    t.mFaults = s.mFaults

/-- R16, R17, R18, R19, R12, R13: no rule reads `M_POL`, `M_RATE`, `M_TM`, `M_FAULTS`, the address or the bus frequency: two
blocks that differ only in them take the same step. -/
def Obligations.UnreadElementsNeverMatter : Prop :=
  ∀ s s' t t' : State, forgetUnread s = forgetUnread s' → step s = .next t → step s' = .next t' →
    forgetUnread t = forgetUnread t'

/-- R33: no rule reads `HIST` to decide a step, and a step only appends to it. -/
def Obligations.HistoryIsWrittenAndNeverRead : Prop :=
  ∀ s t : State, step s = .next t → ∃ es, t.hist = s.hist ++ es ∧
    ∀ h : List Event, step { s with hist := h } = .next { t with hist := h ++ es }

/-- R97 (6), which the spec marks derived: two temperature answers that differ in the low nibble of byte1 leave the same state but for `TBUF[1]` and
the recorded bytes. -/
def Obligations.LowNibbleOfTheTemperatureIsIgnored : Prop :=
  ∀ (s t t' : State) (a a' : BusAnswer) (as : List BusAnswer), presented s = none → s.phase = .rTemp →
    a.count = a'.count → a.byte0 = a'.byte0 → a.byte1.extractLsb' 4 4 = a'.byte1.extractLsb' 4 4 →
    step { s with answers := a :: as } = .next t → step { s with answers := a' :: as } = .next t' →
    { t' with tbuf1 := t.tbuf1, hist := t.hist } = t

/-- R114, which the spec marks derived from R111, R112 and R87: a step appends at most one `Done`, as its last event, and then the command is over. -/
def Obligations.ACommandEndsOnce : Prop :=
  ∀ s t : State, step s = .next t → ∃ es, t.hist = s.hist ++ es ∧ es.length ≤ 2 ∧
    ∀ st, .done st ∈ es → es.getLast? = some (.done st) ∧ t.status = st ∧ t.phase = .idle ∧ t.busy = 0 ∧
      (es.countP fun e => match e with | .done _ => true | _ => false) = 1

/-! ## Invariants -/

/-- R12, R13, R19, R22, R23, R27, R82, R88: every step keeps the block's control state consistent. -/
def Obligations.EveryStepKeepsControlConsistent : Prop :=
  ∀ s t : State, ControlInv s → step s = .next t → ControlInv t

/-- Construction establishes it, for all parameters; and `State.reset` is the construction with R8's defaults. (That reset
takes the defaults, and its address Ground, are the model's choices: logs 3 and 4.) -/
def Obligations.ResetIsConsistentAndHasTheDefaults : Prop :=
  (∀ p : Config.Params, ControlInv (State.construct p)) ∧ ControlInv State.reset ∧
  State.reset = State.construct State.reset.params ∧ State.reset.addrSel = .ground ∧
  State.reset.params.xferTimeoutMs = 30 ∧ State.reset.params.expCfgRead = 2 ∧ State.reset.params.expCfgWrite = 3 ∧
  State.reset.params.expTempRead = 3 ∧ State.reset.params.tInitPreMs = 30 ∧ State.reset.params.tInitPostMs = 30 ∧
  State.reset.params.tTrigMs = 1 ∧ State.reset.params.pollLimit = none ∧ State.reset.params.gateBit = .bit0 ∧
  State.reset.params.accessorArith = .leftToRight ∧ State.reset.params.wf = true

/-- R14, R20, R23 to R26, R33: every step keeps `STATUS`, `ERR_*`, `RESULT`, `TCODE`, the mirror and the command in progress
equal to what the history determines; construction establishes it. -/
def Obligations.RegistersFollowTheHistory : Prop :=
  (∀ s t : State, FollowsHistory s → step s = .next t → FollowsHistory t) ∧
  (∀ p : Config.Params, FollowsHistory (State.construct p))

/-- R66, R63, R23: every step keeps the history free of any transaction but the three, of any delay but the three, of any
command word but the valid ones, and of status 3; construction establishes it. -/
def Obligations.HistoryHoldsOnlyTheBlocksEvents : Prop :=
  (∀ s t : State, (∀ e ∈ s.hist, eventLegal s.params e = true) → step s = .next t →
    ∀ e ∈ t.hist, eventLegal t.params e = true) ∧
  (∀ p : Config.Params, (State.construct p).hist = [])

/-! ## Liveness and reset (70_reset_and_hazards.md) -/

/-- R133: a command can fail to end only in the poll: with a waiting host, from every other phase the block is idle or
polling within four steps, whatever the executor answers. -/
def Obligations.OnlyThePollCanRunForEver : Prop :=
  ∀ s : State, s.busy = 1 → hostWaits s.host = true → s.phase ≠ .rPoll →
    ∃ k t, k ≤ 4 ∧ runSteps k s = .next t ∧ (t.phase = .idle ∨ t.phase = .rPoll)

/-- R88, R133: with `P_POLL_LIMIT = N` every command ends, within N + 4 steps, whatever the executor answers. -/
def Obligations.BoundedPollEndsEveryCommand : Prop :=
  ∀ (s : State) (n : Nat), s.busy = 1 → hostWaits s.host = true → s.params.pollLimit = some n → 1 ≤ n →
    ∃ k t, k ≤ n + 4 ∧ runSteps k s = .next t ∧ t.phase = .idle

/-- R125: what construction leaves in every element, for all construction arguments and parameters: the entry point is
the idle state, and no transaction or delay was issued. -/
def Obligations.ConstructionLeavesTheResetValues : Prop :=
  ∀ p : Config.Params, let s := State.construct p
    s.params = p ∧ s.addrSel = p.addrSel ∧ s.busFreqHz = p.busFreqHz ∧
    (p.addrSel = .ground → s.addr7 = 0x48) ∧ (p.addrSel = .supply → s.addr7 = 0x49) ∧
    (p.addrSel = .dataLine → s.addr7 = 0x4A) ∧ (p.addrSel = .clockLine → s.addr7 = 0x4B) ∧
    s.mOneshot = 0 ∧ s.mPol = p.defaultAlertPolarity ∧ s.mRate = 2 ∧ s.mTm = 0 ∧ s.mFaults = 0 ∧
    s.tcode = 0x000 ∧ s.busy = 0 ∧ s.status = 0 ∧ s.errExpected = 0 ∧ s.errActual = 0 ∧ s.result = 0x00000000 ∧
    s.phase = .idle ∧ s.lOs = 0 ∧ s.lPol = 0 ∧ s.lRate = 0 ∧ s.lTm = 0 ∧ s.cfgbuf0 = 0x00 ∧ s.cfgbuf1 = 0x00 ∧
    s.tbuf0 = 0x00 ∧ s.tbuf1 = 0x00 ∧ s.polls = 0 ∧ s.refused = 0 ∧ s.hist = []
end

