-- ==== Sys2Proof/Laws/Decode.lean ====
section
/-! SUPPORT. What the decoder answers, word by word. -/

namespace Sys2Proof

/-- Every INIT word decodes to its four fields. -/
theorem decodeCommand_initWord : ∀ (o p : Bit) (r : BitVec 2) (t : Bit),
    decodeCommand (initWord o p r t) = .ok (.init o p r t) := by
  decide +kernel

@[simp] theorem decodeCommand_read : decodeCommand 0x40#8 = .ok .read := rfl
@[simp] theorem decodeCommand_getC : decodeCommand 0x60#8 = .ok .getC := rfl
@[simp] theorem decodeCommand_getF : decodeCommand 0x61#8 = .ok .getF := rfl
@[simp] theorem decodeCommand_getK : decodeCommand 0x62#8 = .ok .getK := rfl
@[simp] theorem decodeCommand_getR : decodeCommand 0x63#8 = .ok .getR := rfl

@[simp] theorem decodeFrame_cfgRead : decodeFrame [0x01#8] 2 = .ok .cfgRead := rfl
@[simp] theorem decodeFrame_cfgWrite (d0 d1 : Byte) : decodeFrame [0x01#8, d0, d1] 0 = .ok (.cfgWrite d0 d1) := rfl
@[simp] theorem decodeFrame_tempRead : decodeFrame [0x00#8] 2 = .ok .tempRead := rfl

/-- A word that decodes is an instruction of the command format whose encoding is that word. -/
theorem decodeCommand_ok {c : Byte} {i : Instr} (h : decodeCommand c = .ok i) :
    i.format = .commandWord ∧ encode i = [c] := by
  have key : ∀ c : Byte, (decodeCommand c).toOption.all
      (fun i => decide (i.format = .commandWord ∧ encode i = [c])) = true := by decide +kernel
  simpa [h, Except.toOption] using key c

/-- A frame that decodes is an instruction of the frame format whose write bytes are the list. -/
theorem decodeFrame_ok {w : List Byte} {n : Nat} {i : Instr} (h : decodeFrame w n = .ok i) :
    i.format = .busFrame ∧ encode i = w := by
  unfold decodeFrame at h
  split at h
  · split at h
    · next hp => cases h; exact ⟨rfl, by simp [encode, hp.1]⟩
    · split at h
      · next hp => cases h; exact ⟨rfl, by simp [encode, hp.1]⟩
      · cases h
  · split at h
    · next hp => cases h; exact ⟨rfl, by simp [encode, hp.1]⟩
    · cases h
  · cases h

end Sys2Proof
end

