-- ==== Sys2Proof/Laws/Operands.lean ====
section
/-! SUPPORT. The operand assemblies as bit fields. -/

namespace Sys2Proof.Machine

open Sys2Proof

/-- R49: the code is byte0 followed by the high nibble of byte1. -/
theorem tempCode_eq_append (b0 b1 : Byte) : tempCode b0 b1 = b0 ++ b1.extractLsb' 4 4 := by
  apply BitVec.eq_of_getLsbD_eq
  intro i hi
  simp only [tempCode, BitVec.getLsbD_or, BitVec.getLsbD_shiftLeft, BitVec.getLsbD_setWidth,
    BitVec.getLsbD_append, BitVec.getLsbD_ushiftRight, BitVec.getLsbD_extractLsb']
  by_cases h : i < 4 <;> simp [h, hi]
  have : b1.getLsbD (4 + i) = false := BitVec.getLsbD_of_ge _ _ (by omega)
  simp [this]
  intro h2
  omega

/-- R48: only the high nibble of byte1 matters. -/
theorem tempCode_low_nibble {b1 b1' : Byte} (b0 : Byte) (h : b1.extractLsb' 4 4 = b1'.extractLsb' 4 4) :
    tempCode b0 b1 = tempCode b0 b1' := by
  rw [tempCode_eq_append, tempCode_eq_append, h]

/-- The rate is no part of byte0. -/
theorem packByte0_rate (os pol tm : Bit) (r r' : BitVec 2) (b : Byte) :
    packByte0 ⟨os, pol, r, tm⟩ b = packByte0 ⟨os, pol, r', tm⟩ b := rfl

/-- The one-bit options are no part of byte1. -/
theorem packByte1_bits (os os' pol pol' tm tm' : Bit) (r : BitVec 2) (b : Byte) :
    packByte1 ⟨os, pol, r, tm⟩ b = packByte1 ⟨os', pol', r, tm'⟩ b := rfl

/-- R75 (4): a byte0 that holds the options is left as it is. -/
theorem packByte0_self (b : Byte) (r : BitVec 2) :
    packByte0 ⟨b.extractLsb' 0 1, b.extractLsb' 2 1, r, b.extractLsb' 1 1⟩ b = b := by
  have key : ∀ b : Byte, packByte0 ⟨b.extractLsb' 0 1, b.extractLsb' 2 1, 0, b.extractLsb' 1 1⟩ b = b := by
    decide +kernel
  exact key b

/-- R75 (4): a byte1 that holds the rate is left as it is. -/
theorem packByte1_self (b : Byte) (os pol tm : Bit) : packByte1 ⟨os, pol, b.extractLsb' 6 2, tm⟩ b = b := by
  have key : ∀ b : Byte, packByte1 ⟨0, 0, b.extractLsb' 6 2, 0⟩ b = b := by decide +kernel
  exact key b

@[simp] theorem writeBytes_cfgRead : writeBytes .cfgRead = [0x01] := rfl
@[simp] theorem writeBytes_cfgWrite (d0 d1 : Byte) : writeBytes (.cfgWrite d0 d1) = [0x01, d0, d1] := rfl
@[simp] theorem writeBytes_tempRead : writeBytes .tempRead = [0x00] := rfl
@[simp] theorem readLen_cfgRead : readLen .cfgRead = 2 := rfl
@[simp] theorem readLen_cfgWrite (d0 d1 : Byte) : readLen (.cfgWrite d0 d1) = 0 := rfl
@[simp] theorem readLen_tempRead : readLen .tempRead = 2 := rfl
@[simp] theorem expectedCount_cfgRead (p : Config.Params) : expectedCount p .cfgRead = p.expCfgRead := rfl
@[simp] theorem expectedCount_cfgWrite (p : Config.Params) (d0 d1 : Byte) :
    expectedCount p (.cfgWrite d0 d1) = p.expCfgWrite := rfl
@[simp] theorem expectedCount_tempRead (p : Config.Params) : expectedCount p .tempRead = p.expTempRead := rfl
@[simp] theorem readBytes_two (a : BusAnswer) : readBytes 2 a = [a.byte0, a.byte1] := rfl
@[simp] theorem readBytes_zero (a : BusAnswer) : readBytes 0 a = [] := rfl

end Sys2Proof.Machine
end

