-- ==== Sys2Proof/Laws/State.lean ====
section
/-! SUPPORT. What each named update does to each field of State. -/

namespace Sys2Proof.Machine

open Sys2Proof

@[simp] theorem record_params (e : Event) (s : State) : (record e s).params = s.params := rfl
@[simp] theorem record_addrSel (e : Event) (s : State) : (record e s).addrSel = s.addrSel := rfl
@[simp] theorem record_addr7 (e : Event) (s : State) : (record e s).addr7 = s.addr7 := rfl
@[simp] theorem record_busFreqHz (e : Event) (s : State) : (record e s).busFreqHz = s.busFreqHz := rfl
@[simp] theorem record_mOneshot (e : Event) (s : State) : (record e s).mOneshot = s.mOneshot := rfl
@[simp] theorem record_mPol (e : Event) (s : State) : (record e s).mPol = s.mPol := rfl
@[simp] theorem record_mRate (e : Event) (s : State) : (record e s).mRate = s.mRate := rfl
@[simp] theorem record_mTm (e : Event) (s : State) : (record e s).mTm = s.mTm := rfl
@[simp] theorem record_mFaults (e : Event) (s : State) : (record e s).mFaults = s.mFaults := rfl
@[simp] theorem record_tcode (e : Event) (s : State) : (record e s).tcode = s.tcode := rfl
@[simp] theorem record_busy (e : Event) (s : State) : (record e s).busy = s.busy := rfl
@[simp] theorem record_status (e : Event) (s : State) : (record e s).status = s.status := rfl
@[simp] theorem record_errExpected (e : Event) (s : State) : (record e s).errExpected = s.errExpected := rfl
@[simp] theorem record_errActual (e : Event) (s : State) : (record e s).errActual = s.errActual := rfl
@[simp] theorem record_result (e : Event) (s : State) : (record e s).result = s.result := rfl
@[simp] theorem record_phase (e : Event) (s : State) : (record e s).phase = s.phase := rfl
@[simp] theorem record_lOs (e : Event) (s : State) : (record e s).lOs = s.lOs := rfl
@[simp] theorem record_lPol (e : Event) (s : State) : (record e s).lPol = s.lPol := rfl
@[simp] theorem record_lRate (e : Event) (s : State) : (record e s).lRate = s.lRate := rfl
@[simp] theorem record_lTm (e : Event) (s : State) : (record e s).lTm = s.lTm := rfl
@[simp] theorem record_cfgbuf0 (e : Event) (s : State) : (record e s).cfgbuf0 = s.cfgbuf0 := rfl
@[simp] theorem record_cfgbuf1 (e : Event) (s : State) : (record e s).cfgbuf1 = s.cfgbuf1 := rfl
@[simp] theorem record_tbuf0 (e : Event) (s : State) : (record e s).tbuf0 = s.tbuf0 := rfl
@[simp] theorem record_tbuf1 (e : Event) (s : State) : (record e s).tbuf1 = s.tbuf1 := rfl
@[simp] theorem record_polls (e : Event) (s : State) : (record e s).polls = s.polls := rfl
@[simp] theorem record_refused (e : Event) (s : State) : (record e s).refused = s.refused := rfl
@[simp] theorem record_hist (e : Event) (s : State) : (record e s).hist = s.hist ++ [e] := rfl
@[simp] theorem record_host (e : Event) (s : State) : (record e s).host = s.host := rfl
@[simp] theorem record_answers (e : Event) (s : State) : (record e s).answers = s.answers := rfl
@[simp] theorem record_draws (e : Event) (s : State) : (record e s).draws = s.draws := rfl

@[simp] theorem endCommand_params (st : BitVec 2) (s : State) : (endCommand st s).params = s.params := rfl
@[simp] theorem endCommand_addrSel (st : BitVec 2) (s : State) : (endCommand st s).addrSel = s.addrSel := rfl
@[simp] theorem endCommand_addr7 (st : BitVec 2) (s : State) : (endCommand st s).addr7 = s.addr7 := rfl
@[simp] theorem endCommand_busFreqHz (st : BitVec 2) (s : State) : (endCommand st s).busFreqHz = s.busFreqHz := rfl
@[simp] theorem endCommand_mOneshot (st : BitVec 2) (s : State) : (endCommand st s).mOneshot = s.mOneshot := rfl
@[simp] theorem endCommand_mPol (st : BitVec 2) (s : State) : (endCommand st s).mPol = s.mPol := rfl
@[simp] theorem endCommand_mRate (st : BitVec 2) (s : State) : (endCommand st s).mRate = s.mRate := rfl
@[simp] theorem endCommand_mTm (st : BitVec 2) (s : State) : (endCommand st s).mTm = s.mTm := rfl
@[simp] theorem endCommand_mFaults (st : BitVec 2) (s : State) : (endCommand st s).mFaults = s.mFaults := rfl
@[simp] theorem endCommand_tcode (st : BitVec 2) (s : State) : (endCommand st s).tcode = s.tcode := rfl
@[simp] theorem endCommand_busy (st : BitVec 2) (s : State) : (endCommand st s).busy = 0 := rfl
@[simp] theorem endCommand_status (st : BitVec 2) (s : State) : (endCommand st s).status = st := rfl
@[simp] theorem endCommand_errExpected (st : BitVec 2) (s : State) : (endCommand st s).errExpected = s.errExpected := rfl
@[simp] theorem endCommand_errActual (st : BitVec 2) (s : State) : (endCommand st s).errActual = s.errActual := rfl
@[simp] theorem endCommand_result (st : BitVec 2) (s : State) : (endCommand st s).result = s.result := rfl
@[simp] theorem endCommand_phase (st : BitVec 2) (s : State) : (endCommand st s).phase = .idle := rfl
@[simp] theorem endCommand_lOs (st : BitVec 2) (s : State) : (endCommand st s).lOs = s.lOs := rfl
@[simp] theorem endCommand_lPol (st : BitVec 2) (s : State) : (endCommand st s).lPol = s.lPol := rfl
@[simp] theorem endCommand_lRate (st : BitVec 2) (s : State) : (endCommand st s).lRate = s.lRate := rfl
@[simp] theorem endCommand_lTm (st : BitVec 2) (s : State) : (endCommand st s).lTm = s.lTm := rfl
@[simp] theorem endCommand_cfgbuf0 (st : BitVec 2) (s : State) : (endCommand st s).cfgbuf0 = s.cfgbuf0 := rfl
@[simp] theorem endCommand_cfgbuf1 (st : BitVec 2) (s : State) : (endCommand st s).cfgbuf1 = s.cfgbuf1 := rfl
@[simp] theorem endCommand_tbuf0 (st : BitVec 2) (s : State) : (endCommand st s).tbuf0 = s.tbuf0 := rfl
@[simp] theorem endCommand_tbuf1 (st : BitVec 2) (s : State) : (endCommand st s).tbuf1 = s.tbuf1 := rfl
@[simp] theorem endCommand_polls (st : BitVec 2) (s : State) : (endCommand st s).polls = s.polls := rfl
@[simp] theorem endCommand_refused (st : BitVec 2) (s : State) : (endCommand st s).refused = s.refused := rfl
@[simp] theorem endCommand_hist (st : BitVec 2) (s : State) : (endCommand st s).hist = s.hist ++ [.done st] := rfl
@[simp] theorem endCommand_host (st : BitVec 2) (s : State) : (endCommand st s).host = s.host := rfl
@[simp] theorem endCommand_answers (st : BitVec 2) (s : State) : (endCommand st s).answers = s.answers := rfl
@[simp] theorem endCommand_draws (st : BitVec 2) (s : State) : (endCommand st s).draws = s.draws := rfl

@[simp] theorem raiseMismatch_params (x a : U32) (s : State) : (raiseMismatch x a s).params = s.params := rfl
@[simp] theorem raiseMismatch_addrSel (x a : U32) (s : State) : (raiseMismatch x a s).addrSel = s.addrSel := rfl
@[simp] theorem raiseMismatch_addr7 (x a : U32) (s : State) : (raiseMismatch x a s).addr7 = s.addr7 := rfl
@[simp] theorem raiseMismatch_busFreqHz (x a : U32) (s : State) : (raiseMismatch x a s).busFreqHz = s.busFreqHz := rfl
@[simp] theorem raiseMismatch_mOneshot (x a : U32) (s : State) : (raiseMismatch x a s).mOneshot = s.mOneshot := rfl
@[simp] theorem raiseMismatch_mPol (x a : U32) (s : State) : (raiseMismatch x a s).mPol = s.mPol := rfl
@[simp] theorem raiseMismatch_mRate (x a : U32) (s : State) : (raiseMismatch x a s).mRate = s.mRate := rfl
@[simp] theorem raiseMismatch_mTm (x a : U32) (s : State) : (raiseMismatch x a s).mTm = s.mTm := rfl
@[simp] theorem raiseMismatch_mFaults (x a : U32) (s : State) : (raiseMismatch x a s).mFaults = s.mFaults := rfl
@[simp] theorem raiseMismatch_tcode (x a : U32) (s : State) : (raiseMismatch x a s).tcode = s.tcode := rfl
@[simp] theorem raiseMismatch_busy (x a : U32) (s : State) : (raiseMismatch x a s).busy = 0 := rfl
@[simp] theorem raiseMismatch_status (x a : U32) (s : State) : (raiseMismatch x a s).status = 1 := rfl
@[simp] theorem raiseMismatch_errExpected (x a : U32) (s : State) : (raiseMismatch x a s).errExpected = x := rfl
@[simp] theorem raiseMismatch_errActual (x a : U32) (s : State) : (raiseMismatch x a s).errActual = a := rfl
@[simp] theorem raiseMismatch_result (x a : U32) (s : State) : (raiseMismatch x a s).result = s.result := rfl
@[simp] theorem raiseMismatch_phase (x a : U32) (s : State) : (raiseMismatch x a s).phase = .idle := rfl
@[simp] theorem raiseMismatch_lOs (x a : U32) (s : State) : (raiseMismatch x a s).lOs = s.lOs := rfl
@[simp] theorem raiseMismatch_lPol (x a : U32) (s : State) : (raiseMismatch x a s).lPol = s.lPol := rfl
@[simp] theorem raiseMismatch_lRate (x a : U32) (s : State) : (raiseMismatch x a s).lRate = s.lRate := rfl
@[simp] theorem raiseMismatch_lTm (x a : U32) (s : State) : (raiseMismatch x a s).lTm = s.lTm := rfl
@[simp] theorem raiseMismatch_cfgbuf0 (x a : U32) (s : State) : (raiseMismatch x a s).cfgbuf0 = s.cfgbuf0 := rfl
@[simp] theorem raiseMismatch_cfgbuf1 (x a : U32) (s : State) : (raiseMismatch x a s).cfgbuf1 = s.cfgbuf1 := rfl
@[simp] theorem raiseMismatch_tbuf0 (x a : U32) (s : State) : (raiseMismatch x a s).tbuf0 = s.tbuf0 := rfl
@[simp] theorem raiseMismatch_tbuf1 (x a : U32) (s : State) : (raiseMismatch x a s).tbuf1 = s.tbuf1 := rfl
@[simp] theorem raiseMismatch_polls (x a : U32) (s : State) : (raiseMismatch x a s).polls = s.polls := rfl
@[simp] theorem raiseMismatch_refused (x a : U32) (s : State) : (raiseMismatch x a s).refused = s.refused := rfl
@[simp] theorem raiseMismatch_hist (x a : U32) (s : State) : (raiseMismatch x a s).hist = s.hist ++ [.done 1] := rfl
@[simp] theorem raiseMismatch_host (x a : U32) (s : State) : (raiseMismatch x a s).host = s.host := rfl
@[simp] theorem raiseMismatch_answers (x a : U32) (s : State) : (raiseMismatch x a s).answers = s.answers := rfl
@[simp] theorem raiseMismatch_draws (x a : U32) (s : State) : (raiseMismatch x a s).draws = s.draws := rfl

@[simp] theorem storeCfg_params (a : BusAnswer) (s : State) : (storeCfg a s).params = s.params := rfl
@[simp] theorem storeCfg_addrSel (a : BusAnswer) (s : State) : (storeCfg a s).addrSel = s.addrSel := rfl
@[simp] theorem storeCfg_addr7 (a : BusAnswer) (s : State) : (storeCfg a s).addr7 = s.addr7 := rfl
@[simp] theorem storeCfg_busFreqHz (a : BusAnswer) (s : State) : (storeCfg a s).busFreqHz = s.busFreqHz := rfl
@[simp] theorem storeCfg_mOneshot (a : BusAnswer) (s : State) : (storeCfg a s).mOneshot = s.mOneshot := rfl
@[simp] theorem storeCfg_mPol (a : BusAnswer) (s : State) : (storeCfg a s).mPol = s.mPol := rfl
@[simp] theorem storeCfg_mRate (a : BusAnswer) (s : State) : (storeCfg a s).mRate = s.mRate := rfl
@[simp] theorem storeCfg_mTm (a : BusAnswer) (s : State) : (storeCfg a s).mTm = s.mTm := rfl
@[simp] theorem storeCfg_mFaults (a : BusAnswer) (s : State) : (storeCfg a s).mFaults = s.mFaults := rfl
@[simp] theorem storeCfg_tcode (a : BusAnswer) (s : State) : (storeCfg a s).tcode = s.tcode := rfl
@[simp] theorem storeCfg_busy (a : BusAnswer) (s : State) : (storeCfg a s).busy = s.busy := rfl
@[simp] theorem storeCfg_status (a : BusAnswer) (s : State) : (storeCfg a s).status = s.status := rfl
@[simp] theorem storeCfg_errExpected (a : BusAnswer) (s : State) : (storeCfg a s).errExpected = s.errExpected := rfl
@[simp] theorem storeCfg_errActual (a : BusAnswer) (s : State) : (storeCfg a s).errActual = s.errActual := rfl
@[simp] theorem storeCfg_result (a : BusAnswer) (s : State) : (storeCfg a s).result = s.result := rfl
@[simp] theorem storeCfg_phase (a : BusAnswer) (s : State) : (storeCfg a s).phase = s.phase := rfl
@[simp] theorem storeCfg_lOs (a : BusAnswer) (s : State) : (storeCfg a s).lOs = s.lOs := rfl
@[simp] theorem storeCfg_lPol (a : BusAnswer) (s : State) : (storeCfg a s).lPol = s.lPol := rfl
@[simp] theorem storeCfg_lRate (a : BusAnswer) (s : State) : (storeCfg a s).lRate = s.lRate := rfl
@[simp] theorem storeCfg_lTm (a : BusAnswer) (s : State) : (storeCfg a s).lTm = s.lTm := rfl
@[simp] theorem storeCfg_cfgbuf0 (a : BusAnswer) (s : State) : (storeCfg a s).cfgbuf0 = a.byte0 := rfl
@[simp] theorem storeCfg_cfgbuf1 (a : BusAnswer) (s : State) : (storeCfg a s).cfgbuf1 = a.byte1 := rfl
@[simp] theorem storeCfg_tbuf0 (a : BusAnswer) (s : State) : (storeCfg a s).tbuf0 = s.tbuf0 := rfl
@[simp] theorem storeCfg_tbuf1 (a : BusAnswer) (s : State) : (storeCfg a s).tbuf1 = s.tbuf1 := rfl
@[simp] theorem storeCfg_polls (a : BusAnswer) (s : State) : (storeCfg a s).polls = s.polls := rfl
@[simp] theorem storeCfg_refused (a : BusAnswer) (s : State) : (storeCfg a s).refused = s.refused := rfl
@[simp] theorem storeCfg_hist (a : BusAnswer) (s : State) : (storeCfg a s).hist = s.hist := rfl
@[simp] theorem storeCfg_host (a : BusAnswer) (s : State) : (storeCfg a s).host = s.host := rfl
@[simp] theorem storeCfg_answers (a : BusAnswer) (s : State) : (storeCfg a s).answers = s.answers := rfl
@[simp] theorem storeCfg_draws (a : BusAnswer) (s : State) : (storeCfg a s).draws = s.draws := rfl

@[simp] theorem storeTemp_params (a : BusAnswer) (s : State) : (storeTemp a s).params = s.params := rfl
@[simp] theorem storeTemp_addrSel (a : BusAnswer) (s : State) : (storeTemp a s).addrSel = s.addrSel := rfl
@[simp] theorem storeTemp_addr7 (a : BusAnswer) (s : State) : (storeTemp a s).addr7 = s.addr7 := rfl
@[simp] theorem storeTemp_busFreqHz (a : BusAnswer) (s : State) : (storeTemp a s).busFreqHz = s.busFreqHz := rfl
@[simp] theorem storeTemp_mOneshot (a : BusAnswer) (s : State) : (storeTemp a s).mOneshot = s.mOneshot := rfl
@[simp] theorem storeTemp_mPol (a : BusAnswer) (s : State) : (storeTemp a s).mPol = s.mPol := rfl
@[simp] theorem storeTemp_mRate (a : BusAnswer) (s : State) : (storeTemp a s).mRate = s.mRate := rfl
@[simp] theorem storeTemp_mTm (a : BusAnswer) (s : State) : (storeTemp a s).mTm = s.mTm := rfl
@[simp] theorem storeTemp_mFaults (a : BusAnswer) (s : State) : (storeTemp a s).mFaults = s.mFaults := rfl
@[simp] theorem storeTemp_tcode (a : BusAnswer) (s : State) : (storeTemp a s).tcode = s.tcode := rfl
@[simp] theorem storeTemp_busy (a : BusAnswer) (s : State) : (storeTemp a s).busy = s.busy := rfl
@[simp] theorem storeTemp_status (a : BusAnswer) (s : State) : (storeTemp a s).status = s.status := rfl
@[simp] theorem storeTemp_errExpected (a : BusAnswer) (s : State) : (storeTemp a s).errExpected = s.errExpected := rfl
@[simp] theorem storeTemp_errActual (a : BusAnswer) (s : State) : (storeTemp a s).errActual = s.errActual := rfl
@[simp] theorem storeTemp_result (a : BusAnswer) (s : State) : (storeTemp a s).result = s.result := rfl
@[simp] theorem storeTemp_phase (a : BusAnswer) (s : State) : (storeTemp a s).phase = s.phase := rfl
@[simp] theorem storeTemp_lOs (a : BusAnswer) (s : State) : (storeTemp a s).lOs = s.lOs := rfl
@[simp] theorem storeTemp_lPol (a : BusAnswer) (s : State) : (storeTemp a s).lPol = s.lPol := rfl
@[simp] theorem storeTemp_lRate (a : BusAnswer) (s : State) : (storeTemp a s).lRate = s.lRate := rfl
@[simp] theorem storeTemp_lTm (a : BusAnswer) (s : State) : (storeTemp a s).lTm = s.lTm := rfl
@[simp] theorem storeTemp_cfgbuf0 (a : BusAnswer) (s : State) : (storeTemp a s).cfgbuf0 = s.cfgbuf0 := rfl
@[simp] theorem storeTemp_cfgbuf1 (a : BusAnswer) (s : State) : (storeTemp a s).cfgbuf1 = s.cfgbuf1 := rfl
@[simp] theorem storeTemp_tbuf0 (a : BusAnswer) (s : State) : (storeTemp a s).tbuf0 = a.byte0 := rfl
@[simp] theorem storeTemp_tbuf1 (a : BusAnswer) (s : State) : (storeTemp a s).tbuf1 = a.byte1 := rfl
@[simp] theorem storeTemp_polls (a : BusAnswer) (s : State) : (storeTemp a s).polls = s.polls := rfl
@[simp] theorem storeTemp_refused (a : BusAnswer) (s : State) : (storeTemp a s).refused = s.refused := rfl
@[simp] theorem storeTemp_hist (a : BusAnswer) (s : State) : (storeTemp a s).hist = s.hist := rfl
@[simp] theorem storeTemp_host (a : BusAnswer) (s : State) : (storeTemp a s).host = s.host := rfl
@[simp] theorem storeTemp_answers (a : BusAnswer) (s : State) : (storeTemp a s).answers = s.answers := rfl
@[simp] theorem storeTemp_draws (a : BusAnswer) (s : State) : (storeTemp a s).draws = s.draws := rfl

@[simp] theorem refuse_params (s : State) : (refuse s).params = s.params := rfl
@[simp] theorem refuse_addrSel (s : State) : (refuse s).addrSel = s.addrSel := rfl
@[simp] theorem refuse_addr7 (s : State) : (refuse s).addr7 = s.addr7 := rfl
@[simp] theorem refuse_busFreqHz (s : State) : (refuse s).busFreqHz = s.busFreqHz := rfl
@[simp] theorem refuse_mOneshot (s : State) : (refuse s).mOneshot = s.mOneshot := rfl
@[simp] theorem refuse_mPol (s : State) : (refuse s).mPol = s.mPol := rfl
@[simp] theorem refuse_mRate (s : State) : (refuse s).mRate = s.mRate := rfl
@[simp] theorem refuse_mTm (s : State) : (refuse s).mTm = s.mTm := rfl
@[simp] theorem refuse_mFaults (s : State) : (refuse s).mFaults = s.mFaults := rfl
@[simp] theorem refuse_tcode (s : State) : (refuse s).tcode = s.tcode := rfl
@[simp] theorem refuse_busy (s : State) : (refuse s).busy = s.busy := rfl
@[simp] theorem refuse_status (s : State) : (refuse s).status = s.status := rfl
@[simp] theorem refuse_errExpected (s : State) : (refuse s).errExpected = s.errExpected := rfl
@[simp] theorem refuse_errActual (s : State) : (refuse s).errActual = s.errActual := rfl
@[simp] theorem refuse_result (s : State) : (refuse s).result = s.result := rfl
@[simp] theorem refuse_phase (s : State) : (refuse s).phase = s.phase := rfl
@[simp] theorem refuse_lOs (s : State) : (refuse s).lOs = s.lOs := rfl
@[simp] theorem refuse_lPol (s : State) : (refuse s).lPol = s.lPol := rfl
@[simp] theorem refuse_lRate (s : State) : (refuse s).lRate = s.lRate := rfl
@[simp] theorem refuse_lTm (s : State) : (refuse s).lTm = s.lTm := rfl
@[simp] theorem refuse_cfgbuf0 (s : State) : (refuse s).cfgbuf0 = s.cfgbuf0 := rfl
@[simp] theorem refuse_cfgbuf1 (s : State) : (refuse s).cfgbuf1 = s.cfgbuf1 := rfl
@[simp] theorem refuse_tbuf0 (s : State) : (refuse s).tbuf0 = s.tbuf0 := rfl
@[simp] theorem refuse_tbuf1 (s : State) : (refuse s).tbuf1 = s.tbuf1 := rfl
@[simp] theorem refuse_polls (s : State) : (refuse s).polls = s.polls := rfl
@[simp] theorem refuse_refused (s : State) : (refuse s).refused = 1 := rfl
@[simp] theorem refuse_hist (s : State) : (refuse s).hist = s.hist := rfl
@[simp] theorem refuse_host (s : State) : (refuse s).host = s.host := rfl
@[simp] theorem refuse_answers (s : State) : (refuse s).answers = s.answers := rfl
@[simp] theorem refuse_draws (s : State) : (refuse s).draws = s.draws := rfl

@[simp] theorem commitMirror_params (s : State) : (commitMirror s).params = s.params := rfl
@[simp] theorem commitMirror_addrSel (s : State) : (commitMirror s).addrSel = s.addrSel := rfl
@[simp] theorem commitMirror_addr7 (s : State) : (commitMirror s).addr7 = s.addr7 := rfl
@[simp] theorem commitMirror_busFreqHz (s : State) : (commitMirror s).busFreqHz = s.busFreqHz := rfl
@[simp] theorem commitMirror_mOneshot (s : State) : (commitMirror s).mOneshot = s.lOs := rfl
@[simp] theorem commitMirror_mPol (s : State) : (commitMirror s).mPol = s.lPol := rfl
@[simp] theorem commitMirror_mRate (s : State) : (commitMirror s).mRate = s.lRate := rfl
@[simp] theorem commitMirror_mTm (s : State) : (commitMirror s).mTm = s.lTm := rfl
@[simp] theorem commitMirror_mFaults (s : State) : (commitMirror s).mFaults = s.mFaults := rfl
@[simp] theorem commitMirror_tcode (s : State) : (commitMirror s).tcode = s.tcode := rfl
@[simp] theorem commitMirror_busy (s : State) : (commitMirror s).busy = s.busy := rfl
@[simp] theorem commitMirror_status (s : State) : (commitMirror s).status = s.status := rfl
@[simp] theorem commitMirror_errExpected (s : State) : (commitMirror s).errExpected = s.errExpected := rfl
@[simp] theorem commitMirror_errActual (s : State) : (commitMirror s).errActual = s.errActual := rfl
@[simp] theorem commitMirror_result (s : State) : (commitMirror s).result = s.result := rfl
@[simp] theorem commitMirror_phase (s : State) : (commitMirror s).phase = s.phase := rfl
@[simp] theorem commitMirror_lOs (s : State) : (commitMirror s).lOs = s.lOs := rfl
@[simp] theorem commitMirror_lPol (s : State) : (commitMirror s).lPol = s.lPol := rfl
@[simp] theorem commitMirror_lRate (s : State) : (commitMirror s).lRate = s.lRate := rfl
@[simp] theorem commitMirror_lTm (s : State) : (commitMirror s).lTm = s.lTm := rfl
@[simp] theorem commitMirror_cfgbuf0 (s : State) : (commitMirror s).cfgbuf0 = s.cfgbuf0 := rfl
@[simp] theorem commitMirror_cfgbuf1 (s : State) : (commitMirror s).cfgbuf1 = s.cfgbuf1 := rfl
@[simp] theorem commitMirror_tbuf0 (s : State) : (commitMirror s).tbuf0 = s.tbuf0 := rfl
@[simp] theorem commitMirror_tbuf1 (s : State) : (commitMirror s).tbuf1 = s.tbuf1 := rfl
@[simp] theorem commitMirror_polls (s : State) : (commitMirror s).polls = s.polls := rfl
@[simp] theorem commitMirror_refused (s : State) : (commitMirror s).refused = s.refused := rfl
@[simp] theorem commitMirror_hist (s : State) : (commitMirror s).hist = s.hist := rfl
@[simp] theorem commitMirror_host (s : State) : (commitMirror s).host = s.host := rfl
@[simp] theorem commitMirror_answers (s : State) : (commitMirror s).answers = s.answers := rfl
@[simp] theorem commitMirror_draws (s : State) : (commitMirror s).draws = s.draws := rfl

@[simp] theorem updateCache_params (s : State) : (updateCache s).params = s.params := rfl
@[simp] theorem updateCache_addrSel (s : State) : (updateCache s).addrSel = s.addrSel := rfl
@[simp] theorem updateCache_addr7 (s : State) : (updateCache s).addr7 = s.addr7 := rfl
@[simp] theorem updateCache_busFreqHz (s : State) : (updateCache s).busFreqHz = s.busFreqHz := rfl
@[simp] theorem updateCache_mOneshot (s : State) : (updateCache s).mOneshot = s.mOneshot := rfl
@[simp] theorem updateCache_mPol (s : State) : (updateCache s).mPol = s.mPol := rfl
@[simp] theorem updateCache_mRate (s : State) : (updateCache s).mRate = s.mRate := rfl
@[simp] theorem updateCache_mTm (s : State) : (updateCache s).mTm = s.mTm := rfl
@[simp] theorem updateCache_mFaults (s : State) : (updateCache s).mFaults = s.mFaults := rfl
@[simp] theorem updateCache_tcode (s : State) : (updateCache s).tcode = tempCode s.tbuf0 s.tbuf1 := rfl
@[simp] theorem updateCache_busy (s : State) : (updateCache s).busy = s.busy := rfl
@[simp] theorem updateCache_status (s : State) : (updateCache s).status = s.status := rfl
@[simp] theorem updateCache_errExpected (s : State) : (updateCache s).errExpected = s.errExpected := rfl
@[simp] theorem updateCache_errActual (s : State) : (updateCache s).errActual = s.errActual := rfl
@[simp] theorem updateCache_result (s : State) : (updateCache s).result = celsius32 (tempCode s.tbuf0 s.tbuf1) := rfl
@[simp] theorem updateCache_phase (s : State) : (updateCache s).phase = s.phase := rfl
@[simp] theorem updateCache_lOs (s : State) : (updateCache s).lOs = s.lOs := rfl
@[simp] theorem updateCache_lPol (s : State) : (updateCache s).lPol = s.lPol := rfl
@[simp] theorem updateCache_lRate (s : State) : (updateCache s).lRate = s.lRate := rfl
@[simp] theorem updateCache_lTm (s : State) : (updateCache s).lTm = s.lTm := rfl
@[simp] theorem updateCache_cfgbuf0 (s : State) : (updateCache s).cfgbuf0 = s.cfgbuf0 := rfl
@[simp] theorem updateCache_cfgbuf1 (s : State) : (updateCache s).cfgbuf1 = s.cfgbuf1 := rfl
@[simp] theorem updateCache_tbuf0 (s : State) : (updateCache s).tbuf0 = s.tbuf0 := rfl
@[simp] theorem updateCache_tbuf1 (s : State) : (updateCache s).tbuf1 = s.tbuf1 := rfl
@[simp] theorem updateCache_polls (s : State) : (updateCache s).polls = s.polls := rfl
@[simp] theorem updateCache_refused (s : State) : (updateCache s).refused = s.refused := rfl
@[simp] theorem updateCache_hist (s : State) : (updateCache s).hist = s.hist := rfl
@[simp] theorem updateCache_host (s : State) : (updateCache s).host = s.host := rfl
@[simp] theorem updateCache_answers (s : State) : (updateCache s).answers = s.answers := rfl
@[simp] theorem updateCache_draws (s : State) : (updateCache s).draws = s.draws := rfl

@[simp] theorem accessor_params (c : Byte) (x : U32) (s : State) : (accessor c x s).params = s.params := rfl
@[simp] theorem accessor_addrSel (c : Byte) (x : U32) (s : State) : (accessor c x s).addrSel = s.addrSel := rfl
@[simp] theorem accessor_addr7 (c : Byte) (x : U32) (s : State) : (accessor c x s).addr7 = s.addr7 := rfl
@[simp] theorem accessor_busFreqHz (c : Byte) (x : U32) (s : State) : (accessor c x s).busFreqHz = s.busFreqHz := rfl
@[simp] theorem accessor_mOneshot (c : Byte) (x : U32) (s : State) : (accessor c x s).mOneshot = s.mOneshot := rfl
@[simp] theorem accessor_mPol (c : Byte) (x : U32) (s : State) : (accessor c x s).mPol = s.mPol := rfl
@[simp] theorem accessor_mRate (c : Byte) (x : U32) (s : State) : (accessor c x s).mRate = s.mRate := rfl
@[simp] theorem accessor_mTm (c : Byte) (x : U32) (s : State) : (accessor c x s).mTm = s.mTm := rfl
@[simp] theorem accessor_mFaults (c : Byte) (x : U32) (s : State) : (accessor c x s).mFaults = s.mFaults := rfl
@[simp] theorem accessor_tcode (c : Byte) (x : U32) (s : State) : (accessor c x s).tcode = s.tcode := rfl
@[simp] theorem accessor_busy (c : Byte) (x : U32) (s : State) : (accessor c x s).busy = s.busy := rfl
@[simp] theorem accessor_status (c : Byte) (x : U32) (s : State) : (accessor c x s).status = s.status := rfl
@[simp] theorem accessor_errExpected (c : Byte) (x : U32) (s : State) : (accessor c x s).errExpected = s.errExpected := rfl
@[simp] theorem accessor_errActual (c : Byte) (x : U32) (s : State) : (accessor c x s).errActual = s.errActual := rfl
@[simp] theorem accessor_result (c : Byte) (x : U32) (s : State) : (accessor c x s).result = x := rfl
@[simp] theorem accessor_phase (c : Byte) (x : U32) (s : State) : (accessor c x s).phase = s.phase := rfl
@[simp] theorem accessor_lOs (c : Byte) (x : U32) (s : State) : (accessor c x s).lOs = s.lOs := rfl
@[simp] theorem accessor_lPol (c : Byte) (x : U32) (s : State) : (accessor c x s).lPol = s.lPol := rfl
@[simp] theorem accessor_lRate (c : Byte) (x : U32) (s : State) : (accessor c x s).lRate = s.lRate := rfl
@[simp] theorem accessor_lTm (c : Byte) (x : U32) (s : State) : (accessor c x s).lTm = s.lTm := rfl
@[simp] theorem accessor_cfgbuf0 (c : Byte) (x : U32) (s : State) : (accessor c x s).cfgbuf0 = s.cfgbuf0 := rfl
@[simp] theorem accessor_cfgbuf1 (c : Byte) (x : U32) (s : State) : (accessor c x s).cfgbuf1 = s.cfgbuf1 := rfl
@[simp] theorem accessor_tbuf0 (c : Byte) (x : U32) (s : State) : (accessor c x s).tbuf0 = s.tbuf0 := rfl
@[simp] theorem accessor_tbuf1 (c : Byte) (x : U32) (s : State) : (accessor c x s).tbuf1 = s.tbuf1 := rfl
@[simp] theorem accessor_polls (c : Byte) (x : U32) (s : State) : (accessor c x s).polls = s.polls := rfl
@[simp] theorem accessor_refused (c : Byte) (x : U32) (s : State) : (accessor c x s).refused = s.refused := rfl
@[simp] theorem accessor_hist (c : Byte) (x : U32) (s : State) : (accessor c x s).hist = s.hist ++ [.cmd c] := rfl
@[simp] theorem accessor_host (c : Byte) (x : U32) (s : State) : (accessor c x s).host = s.host := rfl
@[simp] theorem accessor_answers (c : Byte) (x : U32) (s : State) : (accessor c x s).answers = s.answers := rfl
@[simp] theorem accessor_draws (c : Byte) (x : U32) (s : State) : (accessor c x s).draws = s.draws := rfl

@[simp] theorem takeAnswer_params (s : State) : (takeAnswer s).params = s.params := by unfold takeAnswer; split <;> rfl
@[simp] theorem takeAnswer_addrSel (s : State) : (takeAnswer s).addrSel = s.addrSel := by unfold takeAnswer; split <;> rfl
@[simp] theorem takeAnswer_addr7 (s : State) : (takeAnswer s).addr7 = s.addr7 := by unfold takeAnswer; split <;> rfl
@[simp] theorem takeAnswer_busFreqHz (s : State) : (takeAnswer s).busFreqHz = s.busFreqHz := by unfold takeAnswer; split <;> rfl
@[simp] theorem takeAnswer_mOneshot (s : State) : (takeAnswer s).mOneshot = s.mOneshot := by unfold takeAnswer; split <;> rfl
@[simp] theorem takeAnswer_mPol (s : State) : (takeAnswer s).mPol = s.mPol := by unfold takeAnswer; split <;> rfl
@[simp] theorem takeAnswer_mRate (s : State) : (takeAnswer s).mRate = s.mRate := by unfold takeAnswer; split <;> rfl
@[simp] theorem takeAnswer_mTm (s : State) : (takeAnswer s).mTm = s.mTm := by unfold takeAnswer; split <;> rfl
@[simp] theorem takeAnswer_mFaults (s : State) : (takeAnswer s).mFaults = s.mFaults := by unfold takeAnswer; split <;> rfl
@[simp] theorem takeAnswer_tcode (s : State) : (takeAnswer s).tcode = s.tcode := by unfold takeAnswer; split <;> rfl
@[simp] theorem takeAnswer_busy (s : State) : (takeAnswer s).busy = s.busy := by unfold takeAnswer; split <;> rfl
@[simp] theorem takeAnswer_status (s : State) : (takeAnswer s).status = s.status := by unfold takeAnswer; split <;> rfl
@[simp] theorem takeAnswer_errExpected (s : State) : (takeAnswer s).errExpected = s.errExpected := by unfold takeAnswer; split <;> rfl
@[simp] theorem takeAnswer_errActual (s : State) : (takeAnswer s).errActual = s.errActual := by unfold takeAnswer; split <;> rfl
@[simp] theorem takeAnswer_result (s : State) : (takeAnswer s).result = s.result := by unfold takeAnswer; split <;> rfl
@[simp] theorem takeAnswer_phase (s : State) : (takeAnswer s).phase = s.phase := by unfold takeAnswer; split <;> rfl
@[simp] theorem takeAnswer_lOs (s : State) : (takeAnswer s).lOs = s.lOs := by unfold takeAnswer; split <;> rfl
@[simp] theorem takeAnswer_lPol (s : State) : (takeAnswer s).lPol = s.lPol := by unfold takeAnswer; split <;> rfl
@[simp] theorem takeAnswer_lRate (s : State) : (takeAnswer s).lRate = s.lRate := by unfold takeAnswer; split <;> rfl
@[simp] theorem takeAnswer_lTm (s : State) : (takeAnswer s).lTm = s.lTm := by unfold takeAnswer; split <;> rfl
@[simp] theorem takeAnswer_cfgbuf0 (s : State) : (takeAnswer s).cfgbuf0 = s.cfgbuf0 := by unfold takeAnswer; split <;> rfl
@[simp] theorem takeAnswer_cfgbuf1 (s : State) : (takeAnswer s).cfgbuf1 = s.cfgbuf1 := by unfold takeAnswer; split <;> rfl
@[simp] theorem takeAnswer_tbuf0 (s : State) : (takeAnswer s).tbuf0 = s.tbuf0 := by unfold takeAnswer; split <;> rfl
@[simp] theorem takeAnswer_tbuf1 (s : State) : (takeAnswer s).tbuf1 = s.tbuf1 := by unfold takeAnswer; split <;> rfl
@[simp] theorem takeAnswer_polls (s : State) : (takeAnswer s).polls = s.polls := by unfold takeAnswer; split <;> rfl
@[simp] theorem takeAnswer_refused (s : State) : (takeAnswer s).refused = s.refused := by unfold takeAnswer; split <;> rfl
@[simp] theorem takeAnswer_hist (s : State) : (takeAnswer s).hist = s.hist := by unfold takeAnswer; split <;> rfl
@[simp] theorem takeAnswer_host (s : State) : (takeAnswer s).host = s.host := by unfold takeAnswer; split <;> rfl

@[simp] theorem hostAfter_params (s : State) : (hostAfter s).params = s.params := by unfold hostAfter; repeat (split <;> try rfl)
@[simp] theorem hostAfter_addrSel (s : State) : (hostAfter s).addrSel = s.addrSel := by unfold hostAfter; repeat (split <;> try rfl)
@[simp] theorem hostAfter_addr7 (s : State) : (hostAfter s).addr7 = s.addr7 := by unfold hostAfter; repeat (split <;> try rfl)
@[simp] theorem hostAfter_busFreqHz (s : State) : (hostAfter s).busFreqHz = s.busFreqHz := by unfold hostAfter; repeat (split <;> try rfl)
@[simp] theorem hostAfter_mOneshot (s : State) : (hostAfter s).mOneshot = s.mOneshot := by unfold hostAfter; repeat (split <;> try rfl)
@[simp] theorem hostAfter_mPol (s : State) : (hostAfter s).mPol = s.mPol := by unfold hostAfter; repeat (split <;> try rfl)
@[simp] theorem hostAfter_mRate (s : State) : (hostAfter s).mRate = s.mRate := by unfold hostAfter; repeat (split <;> try rfl)
@[simp] theorem hostAfter_mTm (s : State) : (hostAfter s).mTm = s.mTm := by unfold hostAfter; repeat (split <;> try rfl)
@[simp] theorem hostAfter_mFaults (s : State) : (hostAfter s).mFaults = s.mFaults := by unfold hostAfter; repeat (split <;> try rfl)
@[simp] theorem hostAfter_tcode (s : State) : (hostAfter s).tcode = s.tcode := by unfold hostAfter; repeat (split <;> try rfl)
@[simp] theorem hostAfter_busy (s : State) : (hostAfter s).busy = s.busy := by unfold hostAfter; repeat (split <;> try rfl)
@[simp] theorem hostAfter_status (s : State) : (hostAfter s).status = s.status := by unfold hostAfter; repeat (split <;> try rfl)
@[simp] theorem hostAfter_errExpected (s : State) : (hostAfter s).errExpected = s.errExpected := by unfold hostAfter; repeat (split <;> try rfl)
@[simp] theorem hostAfter_errActual (s : State) : (hostAfter s).errActual = s.errActual := by unfold hostAfter; repeat (split <;> try rfl)
@[simp] theorem hostAfter_result (s : State) : (hostAfter s).result = s.result := by unfold hostAfter; repeat (split <;> try rfl)
@[simp] theorem hostAfter_phase (s : State) : (hostAfter s).phase = s.phase := by unfold hostAfter; repeat (split <;> try rfl)
@[simp] theorem hostAfter_lOs (s : State) : (hostAfter s).lOs = s.lOs := by unfold hostAfter; repeat (split <;> try rfl)
@[simp] theorem hostAfter_lPol (s : State) : (hostAfter s).lPol = s.lPol := by unfold hostAfter; repeat (split <;> try rfl)
@[simp] theorem hostAfter_lRate (s : State) : (hostAfter s).lRate = s.lRate := by unfold hostAfter; repeat (split <;> try rfl)
@[simp] theorem hostAfter_lTm (s : State) : (hostAfter s).lTm = s.lTm := by unfold hostAfter; repeat (split <;> try rfl)
@[simp] theorem hostAfter_cfgbuf0 (s : State) : (hostAfter s).cfgbuf0 = s.cfgbuf0 := by unfold hostAfter; repeat (split <;> try rfl)
@[simp] theorem hostAfter_cfgbuf1 (s : State) : (hostAfter s).cfgbuf1 = s.cfgbuf1 := by unfold hostAfter; repeat (split <;> try rfl)
@[simp] theorem hostAfter_tbuf0 (s : State) : (hostAfter s).tbuf0 = s.tbuf0 := by unfold hostAfter; repeat (split <;> try rfl)
@[simp] theorem hostAfter_tbuf1 (s : State) : (hostAfter s).tbuf1 = s.tbuf1 := by unfold hostAfter; repeat (split <;> try rfl)
@[simp] theorem hostAfter_polls (s : State) : (hostAfter s).polls = s.polls := by unfold hostAfter; repeat (split <;> try rfl)
@[simp] theorem hostAfter_refused (s : State) : (hostAfter s).refused = s.refused := by unfold hostAfter; repeat (split <;> try rfl)
@[simp] theorem hostAfter_hist (s : State) : (hostAfter s).hist = s.hist := by unfold hostAfter; repeat (split <;> try rfl)
@[simp] theorem hostAfter_answers (s : State) : (hostAfter s).answers = s.answers := by unfold hostAfter; repeat (split <;> try rfl)
@[simp] theorem hostAfter_draws (s : State) : (hostAfter s).draws = s.draws := by unfold hostAfter; repeat (split <;> try rfl)

@[simp] theorem countPoll_params (ph : Phase) (s : State) : (countPoll ph s).params = s.params := by unfold countPoll; split <;> rfl
@[simp] theorem countPoll_addrSel (ph : Phase) (s : State) : (countPoll ph s).addrSel = s.addrSel := by unfold countPoll; split <;> rfl
@[simp] theorem countPoll_addr7 (ph : Phase) (s : State) : (countPoll ph s).addr7 = s.addr7 := by unfold countPoll; split <;> rfl
@[simp] theorem countPoll_busFreqHz (ph : Phase) (s : State) : (countPoll ph s).busFreqHz = s.busFreqHz := by unfold countPoll; split <;> rfl
@[simp] theorem countPoll_mOneshot (ph : Phase) (s : State) : (countPoll ph s).mOneshot = s.mOneshot := by unfold countPoll; split <;> rfl
@[simp] theorem countPoll_mPol (ph : Phase) (s : State) : (countPoll ph s).mPol = s.mPol := by unfold countPoll; split <;> rfl
@[simp] theorem countPoll_mRate (ph : Phase) (s : State) : (countPoll ph s).mRate = s.mRate := by unfold countPoll; split <;> rfl
@[simp] theorem countPoll_mTm (ph : Phase) (s : State) : (countPoll ph s).mTm = s.mTm := by unfold countPoll; split <;> rfl
@[simp] theorem countPoll_mFaults (ph : Phase) (s : State) : (countPoll ph s).mFaults = s.mFaults := by unfold countPoll; split <;> rfl
@[simp] theorem countPoll_tcode (ph : Phase) (s : State) : (countPoll ph s).tcode = s.tcode := by unfold countPoll; split <;> rfl
@[simp] theorem countPoll_busy (ph : Phase) (s : State) : (countPoll ph s).busy = s.busy := by unfold countPoll; split <;> rfl
@[simp] theorem countPoll_status (ph : Phase) (s : State) : (countPoll ph s).status = s.status := by unfold countPoll; split <;> rfl
@[simp] theorem countPoll_errExpected (ph : Phase) (s : State) : (countPoll ph s).errExpected = s.errExpected := by unfold countPoll; split <;> rfl
@[simp] theorem countPoll_errActual (ph : Phase) (s : State) : (countPoll ph s).errActual = s.errActual := by unfold countPoll; split <;> rfl
@[simp] theorem countPoll_result (ph : Phase) (s : State) : (countPoll ph s).result = s.result := by unfold countPoll; split <;> rfl
@[simp] theorem countPoll_phase (ph : Phase) (s : State) : (countPoll ph s).phase = s.phase := by unfold countPoll; split <;> rfl
@[simp] theorem countPoll_lOs (ph : Phase) (s : State) : (countPoll ph s).lOs = s.lOs := by unfold countPoll; split <;> rfl
@[simp] theorem countPoll_lPol (ph : Phase) (s : State) : (countPoll ph s).lPol = s.lPol := by unfold countPoll; split <;> rfl
@[simp] theorem countPoll_lRate (ph : Phase) (s : State) : (countPoll ph s).lRate = s.lRate := by unfold countPoll; split <;> rfl
@[simp] theorem countPoll_lTm (ph : Phase) (s : State) : (countPoll ph s).lTm = s.lTm := by unfold countPoll; split <;> rfl
@[simp] theorem countPoll_cfgbuf0 (ph : Phase) (s : State) : (countPoll ph s).cfgbuf0 = s.cfgbuf0 := by unfold countPoll; split <;> rfl
@[simp] theorem countPoll_cfgbuf1 (ph : Phase) (s : State) : (countPoll ph s).cfgbuf1 = s.cfgbuf1 := by unfold countPoll; split <;> rfl
@[simp] theorem countPoll_tbuf0 (ph : Phase) (s : State) : (countPoll ph s).tbuf0 = s.tbuf0 := by unfold countPoll; split <;> rfl
@[simp] theorem countPoll_tbuf1 (ph : Phase) (s : State) : (countPoll ph s).tbuf1 = s.tbuf1 := by unfold countPoll; split <;> rfl
@[simp] theorem countPoll_polls (ph : Phase) (s : State) : (countPoll ph s).polls = if ph = .rPoll then s.polls + 1 else s.polls := by unfold countPoll; split <;> rfl
@[simp] theorem countPoll_refused (ph : Phase) (s : State) : (countPoll ph s).refused = s.refused := by unfold countPoll; split <;> rfl
@[simp] theorem countPoll_hist (ph : Phase) (s : State) : (countPoll ph s).hist = s.hist := by unfold countPoll; split <;> rfl
@[simp] theorem countPoll_host (ph : Phase) (s : State) : (countPoll ph s).host = s.host := by unfold countPoll; split <;> rfl
@[simp] theorem countPoll_answers (ph : Phase) (s : State) : (countPoll ph s).answers = s.answers := by unfold countPoll; split <;> rfl
@[simp] theorem countPoll_draws (ph : Phase) (s : State) : (countPoll ph s).draws = s.draws := by unfold countPoll; split <;> rfl

/-- The executor call of a frame: one event, one answer taken. -/
theorem bus_eq (f : Frame) (a : BusAnswer) (s : State) :
    bus f a s = { s with
      hist := s.hist ++ [.txn (writeBytes f) (readLen f) a.count (readBytes (readLen f) a)]
      answers := (takeAnswer s).answers, draws := (takeAnswer s).draws } := by
  unfold bus record takeAnswer busCall
  split <;> rfl

@[simp] theorem bus_params (f : Frame) (a : BusAnswer) (s : State) : (bus f a s).params = s.params := by rw [bus_eq]
@[simp] theorem bus_addrSel (f : Frame) (a : BusAnswer) (s : State) : (bus f a s).addrSel = s.addrSel := by rw [bus_eq]
@[simp] theorem bus_addr7 (f : Frame) (a : BusAnswer) (s : State) : (bus f a s).addr7 = s.addr7 := by rw [bus_eq]
@[simp] theorem bus_busFreqHz (f : Frame) (a : BusAnswer) (s : State) : (bus f a s).busFreqHz = s.busFreqHz := by rw [bus_eq]
@[simp] theorem bus_mOneshot (f : Frame) (a : BusAnswer) (s : State) : (bus f a s).mOneshot = s.mOneshot := by rw [bus_eq]
@[simp] theorem bus_mPol (f : Frame) (a : BusAnswer) (s : State) : (bus f a s).mPol = s.mPol := by rw [bus_eq]
@[simp] theorem bus_mRate (f : Frame) (a : BusAnswer) (s : State) : (bus f a s).mRate = s.mRate := by rw [bus_eq]
@[simp] theorem bus_mTm (f : Frame) (a : BusAnswer) (s : State) : (bus f a s).mTm = s.mTm := by rw [bus_eq]
@[simp] theorem bus_mFaults (f : Frame) (a : BusAnswer) (s : State) : (bus f a s).mFaults = s.mFaults := by rw [bus_eq]
@[simp] theorem bus_tcode (f : Frame) (a : BusAnswer) (s : State) : (bus f a s).tcode = s.tcode := by rw [bus_eq]
@[simp] theorem bus_busy (f : Frame) (a : BusAnswer) (s : State) : (bus f a s).busy = s.busy := by rw [bus_eq]
@[simp] theorem bus_status (f : Frame) (a : BusAnswer) (s : State) : (bus f a s).status = s.status := by rw [bus_eq]
@[simp] theorem bus_errExpected (f : Frame) (a : BusAnswer) (s : State) : (bus f a s).errExpected = s.errExpected := by rw [bus_eq]
@[simp] theorem bus_errActual (f : Frame) (a : BusAnswer) (s : State) : (bus f a s).errActual = s.errActual := by rw [bus_eq]
@[simp] theorem bus_result (f : Frame) (a : BusAnswer) (s : State) : (bus f a s).result = s.result := by rw [bus_eq]
@[simp] theorem bus_phase (f : Frame) (a : BusAnswer) (s : State) : (bus f a s).phase = s.phase := by rw [bus_eq]
@[simp] theorem bus_lOs (f : Frame) (a : BusAnswer) (s : State) : (bus f a s).lOs = s.lOs := by rw [bus_eq]
@[simp] theorem bus_lPol (f : Frame) (a : BusAnswer) (s : State) : (bus f a s).lPol = s.lPol := by rw [bus_eq]
@[simp] theorem bus_lRate (f : Frame) (a : BusAnswer) (s : State) : (bus f a s).lRate = s.lRate := by rw [bus_eq]
@[simp] theorem bus_lTm (f : Frame) (a : BusAnswer) (s : State) : (bus f a s).lTm = s.lTm := by rw [bus_eq]
@[simp] theorem bus_cfgbuf0 (f : Frame) (a : BusAnswer) (s : State) : (bus f a s).cfgbuf0 = s.cfgbuf0 := by rw [bus_eq]
@[simp] theorem bus_cfgbuf1 (f : Frame) (a : BusAnswer) (s : State) : (bus f a s).cfgbuf1 = s.cfgbuf1 := by rw [bus_eq]
@[simp] theorem bus_tbuf0 (f : Frame) (a : BusAnswer) (s : State) : (bus f a s).tbuf0 = s.tbuf0 := by rw [bus_eq]
@[simp] theorem bus_tbuf1 (f : Frame) (a : BusAnswer) (s : State) : (bus f a s).tbuf1 = s.tbuf1 := by rw [bus_eq]
@[simp] theorem bus_polls (f : Frame) (a : BusAnswer) (s : State) : (bus f a s).polls = s.polls := by rw [bus_eq]
@[simp] theorem bus_refused (f : Frame) (a : BusAnswer) (s : State) : (bus f a s).refused = s.refused := by rw [bus_eq]
@[simp] theorem bus_hist (f : Frame) (a : BusAnswer) (s : State) : (bus f a s).hist = s.hist ++ [.txn (writeBytes f) (readLen f) a.count (readBytes (readLen f) a)] := by rw [bus_eq]
@[simp] theorem bus_host (f : Frame) (a : BusAnswer) (s : State) : (bus f a s).host = s.host := by rw [bus_eq]
@[simp] theorem bus_answers (f : Frame) (a : BusAnswer) (s : State) : (bus f a s).answers = (takeAnswer s).answers := by rw [bus_eq]
@[simp] theorem bus_draws (f : Frame) (a : BusAnswer) (s : State) : (bus f a s).draws = (takeAnswer s).draws := by rw [bus_eq]

/-- Taking an answer changes only the model's own two executor fields. -/
theorem takeAnswer_eq (s : State) :
    takeAnswer s = { s with answers := (takeAnswer s).answers, draws := (takeAnswer s).draws } := by
  unfold takeAnswer
  split <;> rfl

/-- The host's agenda is all that `hostAfter` changes. -/
theorem hostAfter_eq (s : State) : hostAfter s = { s with host := (hostAfter s).host } := by
  unfold hostAfter
  repeat (split <;> try rfl)

end Sys2Proof.Machine
end

