-- ==== Sys2Proof/Laws/Ops.lean ====
section
/-! SUPPORT. What each shared operation can do, said once. -/

namespace Sys2Proof.Machine

open Sys2Proof

/-- A transaction either passes its count check and stores the bytes, or ends the command. -/
theorem transact_cases (f : Frame) (store : BusAnswer → State → State) (s : State) :
    ((nextAnswer s).count = expectedCount s.params f ∧
      transact f store s = store (nextAnswer s) (bus f (nextAnswer s) s)) ∨
    ((nextAnswer s).count ≠ expectedCount s.params f ∧
      transact f store s =
        raiseMismatch (expectedCount s.params f) (nextAnswer s).count (bus f (nextAnswer s) s)) := by
  by_cases h : (nextAnswer s).count = expectedCount s.params f
  · exact .inl ⟨h, by simp [transact, countPasses, h]⟩
  · exact .inr ⟨h, by simp [transact, countPasses, h]⟩

theorem transact_passes {f : Frame} {store : BusAnswer → State → State} {s : State}
    (h : (nextAnswer s).count = expectedCount s.params f) :
    transact f store s = store (nextAnswer s) (bus f (nextAnswer s) s) := by
  simp [transact, countPasses, h]

theorem transact_mismatch {f : Frame} {store : BusAnswer → State → State} {s : State}
    (h : (nextAnswer s).count ≠ expectedCount s.params f) :
    transact f store s =
      raiseMismatch (expectedCount s.params f) (nextAnswer s).count (bus f (nextAnswer s) s) := by
  simp [transact, countPasses, h]

/-- The scripted answers are taken in order. -/
theorem nextAnswer_cons {s : State} {a : BusAnswer} {as : List BusAnswer} (h : s.answers = a :: as) :
    nextAnswer s = a := by
  simp [nextAnswer, h]

theorem takeAnswer_cons {s : State} {a : BusAnswer} {as : List BusAnswer} (h : s.answers = a :: as) :
    takeAnswer s = { s with answers := as } := by
  simp [takeAnswer, h]

theorem ready_iff {s : State} : ready s = true ↔ s.phase = .idle ∧ s.busy = 0 := by
  simp [ready]

theorem whenReady_ready {f : State → State} {s : State} (h : ready s = true) : whenReady f s = f s := by
  simp [whenReady, h]

theorem whenReady_busy {f : State → State} {s : State} (h : s.busy = 1) : whenReady f s = refuse s := by
  simp [whenReady, ready, h]

theorem whenReady_cases (f : State → State) (s : State) :
    (ready s = true ∧ whenReady f s = f s) ∨ (ready s = false ∧ whenReady f s = refuse s) := by
  cases h : ready s <;> simp [whenReady, h]

/-- A status register of one bit holds 0 or 1. -/
theorem bit_cases (b : Bit) : b = 0 ∨ b = 1 := by
  revert b
  decide

/-- While the command runs, a waiting host presents nothing and keeps its agenda. -/
theorem waiting_host {s : State} (hb : s.busy = 1) (hw : hostWaits s.host = true) :
    presented s = none ∧ hostAfter s = s := by
  unfold presented hostAfter
  revert hw
  cases s.host with
  | nil => simp
  | cons a rest => cases a <;> simp [hostWaits, hb]

/-- An idle block's waiting host presents its next word. -/
theorem issued_word {s : State} {w : Byte} {rest : List HostAct} (hb : s.busy = 0)
    (hh : s.host = .issue w :: rest) :
    presented s = some w ∧ hostAfter s = { s with host := rest } := by
  simp [presented, hostAfter, hh, hb]

/-- A word presented at once is presented whatever `BUSY` is. -/
theorem forced_word {s : State} {w : Byte} {rest : List HostAct} (hh : s.host = .force w :: rest) :
    presented s = some w ∧ hostAfter s = { s with host := rest } := by
  simp [presented, hostAfter, hh]

/-- After a raised error the rest of the phase's step writes nothing but the poll count. -/
theorem afterPhase_ended {ph : Phase} {s : State} (h : s.phase = .idle) : afterPhase ph s = countPoll ph s := by
  simp [afterPhase, h]

/-- After a frame or delay that passed, the phase advances. -/
theorem afterPhase_running {ph : Phase} {s : State} (h : s.phase ≠ .idle) :
    afterPhase ph s = advance ph (countPoll ph s) := by
  simp [afterPhase, h]

theorem countPoll_of_ne {ph : Phase} {s : State} (h : ph ≠ .rPoll) : countPoll ph s = s := by
  simp [countPoll, h]

/-- What a poll that passed its count check does (R87, R88). -/
theorem pollTest_cases (s : State) :
    (osSet s = true ∧ pollTest s = { s with phase := .rTemp }) ∨
    (osSet s = false ∧ pollLimitReached s = true ∧ pollTest s = raisePollTimeout s) ∨
    (osSet s = false ∧ pollLimitReached s = false ∧ pollTest s = { s with phase := .rPoll }) := by
  cases h : osSet s <;> cases h' : pollLimitReached s <;> simp [pollTest, h, h']

end Sys2Proof.Machine
end

