-- ==== Sys2Proof/Laws/PerInstr.lean ====
section
/-! SUPPORT. The family RoundTrip of LAWS.json: an instruction's bytes decode, in its row's format, to the
instruction; a DELAY has no bytes. -/

namespace Sys2Proof.Laws.RoundTrip

open Sys2Proof

/-- 30_encoding.md R50, R51; 40_bus_transactions.md R63. -/
def Statement (i : Instr) : Prop :=
  if i.format = .delayEvent then encode i = [] else decode i.format (encode i) = .ok i

theorem init (o p : Bit) (r : BitVec 2) (t : Bit) : Statement (.init o p r t) := by
  simpa [Statement, Instr.format, encode, decode] using decodeCommand_initWord o p r t

theorem read : Statement .read := by simp [Statement, Instr.format, encode, decode]
theorem getC : Statement .getC := by simp [Statement, Instr.format, encode, decode]
theorem getF : Statement .getF := by simp [Statement, Instr.format, encode, decode]
theorem getK : Statement .getK := by simp [Statement, Instr.format, encode, decode]
theorem getR : Statement .getR := by simp [Statement, Instr.format, encode, decode]

theorem cfgRead : Statement .cfgRead := by simp [Statement, Instr.format, encode, decode, frameReadLen]
theorem cfgWrite (d0 d1 : Byte) : Statement (.cfgWrite d0 d1) := by
  simp [Statement, Instr.format, encode, decode, frameReadLen]
theorem tempRead : Statement .tempRead := by simp [Statement, Instr.format, encode, decode, frameReadLen]

theorem delay (ms : U32) : Statement (.delay ms) := by simp [Statement, Instr.format, encode]

end Sys2Proof.Laws.RoundTrip
end

