-- ==== Sys2Proof/Laws/Step.lean ====
section
/-! SUPPORT. What one step can do, said once: every whole-machine claim is a case analysis over these. -/

namespace Sys2Proof.Machine

open Sys2Proof

/-- Every instruction answers a next state. -/
theorem exec_answers (i : Instr) (s : State) : ∃ t, exec i s = .next t := by
  cases i <;> exact ⟨_, rfl⟩

/-- The step of a presented word that decodes. -/
theorem step_command {s : State} {w : Byte} {i : Instr} (hp : presented s = some w)
    (hd : decodeCommand w = .ok i) : step s = exec i (hostAfter s) := by
  simp [step, hp, hd]

/-- The step of a presented word that does not decode. -/
theorem step_reserved {s : State} {w : Byte} {e : DecodeError} (hp : presented s = some w)
    (hd : decodeCommand w = .error e) : step s = .next (refuse (hostAfter s)) := by
  simp [step, hp, hd]

/-- The step of an idle block to which nothing is presented. -/
theorem step_idle {s : State} (hp : presented s = none) (hi : s.phase = .idle) :
    step s = .next (hostAfter s) := by
  simp [step, hp, phaseInstr, hi]

/-- The step of a phase. -/
theorem step_phase {s t : State} {i : Instr} (hp : presented s = none) (hi : phaseInstr s = some i)
    (hx : exec i (hostAfter s) = .next t) : step s = .next (afterPhase s.phase t) := by
  simp [step, hp, hi, hx]

/-- The four things a step can be. -/
theorem step_cases {s t : State} (h : step s = .next t) :
    (presented s = none ∧ s.phase = .idle ∧ t = hostAfter s) ∨
    (∃ w e, presented s = some w ∧ decodeCommand w = .error e ∧ t = refuse (hostAfter s)) ∨
    (∃ w i, presented s = some w ∧ decodeCommand w = .ok i ∧ exec i (hostAfter s) = .next t) ∨
    (∃ i u, presented s = none ∧ phaseInstr s = some i ∧ exec i (hostAfter s) = .next u ∧
      t = afterPhase s.phase u) := by
  cases hp : presented s with
  | some w =>
    cases hd : decodeCommand w with
    | ok i => exact .inr (.inr (.inl ⟨w, i, rfl, hd, by rw [← h, step_command hp hd]⟩))
    | error e =>
      rw [step_reserved hp hd] at h
      cases h
      exact .inr (.inl ⟨w, e, rfl, hd, rfl⟩)
  | none =>
    cases hi : phaseInstr s with
    | none =>
      have hph : s.phase = .idle := by
        revert hi
        unfold phaseInstr
        cases s.phase <;> simp
      rw [step_idle hp hph] at h
      cases h
      exact .inl ⟨rfl, hph, rfl⟩
    | some i =>
      obtain ⟨u, hu⟩ := exec_answers i (hostAfter s)
      rw [step_phase hp hi hu] at h
      cases h
      exact .inr (.inr (.inr ⟨i, u, rfl, rfl, hu, rfl⟩))

/-- An accepted or refused command: what exec of a decoded word can answer. -/
theorem exec_command_cases {i : Instr} {s t : State} (hf : i.format = .commandWord) (h : exec i s = .next t) :
    (ready s = false ∧ t = refuse s) ∨
    (ready s = true ∧
      ((∃ o p r th, i = .init o p r th ∧ t = acceptInit o p r th s) ∨
       (i = .read ∧ t = acceptRead s) ∨
       (i = .getC ∧ t = accessor 0x60 (celsius32 s.tcode) s) ∨
       (i = .getF ∧ t = accessor 0x61 (fahrenheit32 s.params.accessorArith s.tcode) s) ∨
       (i = .getK ∧ t = accessor 0x62 (kelvin32 s.params.accessorArith s.tcode) s) ∨
       (i = .getR ∧ t = accessor 0x63 (rankine32 s.params.accessorArith s.tcode) s))) := by
  cases hr : ready s with
  | false =>
    refine .inl ⟨rfl, ?_⟩
    cases i <;> simp [Instr.format] at hf <;>
      · simp only [exec, execInit, execRead, execGetC, execGetF, execGetK, execGetR, whenReady, hr,
          Host.Outcome.next.injEq] at h
        exact h.symm
  | true =>
    refine .inr ⟨rfl, ?_⟩
    cases i <;> simp [Instr.format] at hf <;>
      simp only [exec, execInit, execRead, execGetC, execGetF, execGetK, execGetR, whenReady, hr,
        if_true, Host.Outcome.next.injEq] at h <;> subst h <;> simp

/-- The step of each phase, when nothing is presented: INIT. -/
theorem step_iPre {s : State} (hp : presented s = none) (hi : s.phase = .iPre) :
    step s = .next { record (.wait s.params.tInitPreMs) (hostAfter s) with phase := .iRd } := by
  rw [step_phase (t := record (.wait s.params.tInitPreMs) (hostAfter s)) (i := .delay s.params.tInitPreMs) hp
    (by simp [phaseInstr, hi]) rfl, hi, afterPhase_running (by simp [hi]), countPoll_of_ne (by simp)]
  rfl

theorem step_iRd {s : State} (hp : presented s = none) (hi : s.phase = .iRd) :
    step s = .next (afterPhase .iRd (transact .cfgRead storeCfg (hostAfter s))) := by
  rw [step_phase (i := .cfgRead) hp (by simp [phaseInstr, hi]) rfl, hi]

theorem step_iWr {s : State} (hp : presented s = none) (hi : s.phase = .iWr) :
    step s = .next (afterPhase .iWr (transact (.cfgWrite (packByte0 (latched s) s.cfgbuf0)
      (packByte1 (latched s) s.cfgbuf1)) (fun _ s => s) (hostAfter s))) := by
  rw [step_phase (i := .cfgWrite (packByte0 (latched s) s.cfgbuf0) (packByte1 (latched s) s.cfgbuf1)) hp
    (by simp [phaseInstr, hi]) rfl, hi]

theorem step_iPost {s : State} (hp : presented s = none) (hi : s.phase = .iPost) :
    step s = .next (finishOk (commitMirror (record (.wait s.params.tInitPostMs) (hostAfter s)))) := by
  rw [step_phase (t := record (.wait s.params.tInitPostMs) (hostAfter s)) (i := .delay s.params.tInitPostMs) hp
    (by simp [phaseInstr, hi]) rfl, hi, afterPhase_running (by simp [hi]), countPoll_of_ne (by simp)]
  rfl

/-- The step of each phase, when nothing is presented: READ. -/
theorem step_rTrigRd {s : State} (hp : presented s = none) (hi : s.phase = .rTrigRd) :
    step s = .next (afterPhase .rTrigRd (transact .cfgRead storeCfg (hostAfter s))) := by
  rw [step_phase (i := .cfgRead) hp (by simp [phaseInstr, hi]) rfl, hi]

theorem step_rTrigWr {s : State} (hp : presented s = none) (hi : s.phase = .rTrigWr) :
    step s = .next (afterPhase .rTrigWr
      (transact (.cfgWrite (triggerByte0 s.cfgbuf0) s.cfgbuf1) (fun _ s => s) (hostAfter s))) := by
  rw [step_phase (i := .cfgWrite (triggerByte0 s.cfgbuf0) s.cfgbuf1) hp (by simp [phaseInstr, hi]) rfl, hi]

theorem step_rTrigDly {s : State} (hp : presented s = none) (hi : s.phase = .rTrigDly) :
    step s = .next { record (.wait s.params.tTrigMs) (hostAfter s) with polls := 0, phase := .rPoll } := by
  rw [step_phase (t := record (.wait s.params.tTrigMs) (hostAfter s)) (i := .delay s.params.tTrigMs) hp
    (by simp [phaseInstr, hi]) rfl, hi, afterPhase_running (by simp [hi]), countPoll_of_ne (by simp)]
  rfl

theorem step_rPoll {s : State} (hp : presented s = none) (hi : s.phase = .rPoll) :
    step s = .next (afterPhase .rPoll (transact .cfgRead storeCfg (hostAfter s))) := by
  rw [step_phase (i := .cfgRead) hp (by simp [phaseInstr, hi]) rfl, hi]

theorem step_rTemp {s : State} (hp : presented s = none) (hi : s.phase = .rTemp) :
    step s = .next (afterPhase .rTemp (transact .tempRead storeTemp (hostAfter s))) := by
  rw [step_phase (i := .tempRead) hp (by simp [phaseInstr, hi]) rfl, hi]

/-- One step of a run. -/
theorem run_succ {k : Nat} {s t : State} (h : step s = .next t) :
    Host.Core.run core (k + 1) s = Host.Core.run core k t := by
  have h' : core.step s = .next t := h
  simp [Host.Core.run, h']

end Sys2Proof.Machine
end

