-- ==== Sys2Proof/Laws/Stepped.lean ====
section
/-! SUPPORT. The inversion of a step: every step is one of these named cases, the state it leaves written out. A claim
about every step is one short case per constructor. -/

namespace Sys2Proof.Machine

open Sys2Proof

/-- The frame a phase issues. -/
def phaseFrame (s : State) : Option Frame :=
  match s.phase with
  | .iRd => some .cfgRead
  | .iWr => some (.cfgWrite (packByte0 (latched s) s.cfgbuf0) (packByte1 (latched s) s.cfgbuf1))
  | .rTrigRd => some .cfgRead
  | .rTrigWr => some (.cfgWrite (triggerByte0 s.cfgbuf0) s.cfgbuf1)
  | .rPoll => some .cfgRead
  | .rTemp => some .tempRead
  | .idle => none
  | .iPre => none
  | .iPost => none
  | .rTrigDly => none

/-- The event of a frame answered by `a`. -/
def frameTxn (f : Frame) (a : BusAnswer) : Event :=
  .txn (writeBytes f) (readLen f) a.count (readBytes (readLen f) a)

@[simp] theorem frameTxn_cfgRead (a : BusAnswer) : frameTxn .cfgRead a = cfgReadTxn a := rfl
@[simp] theorem frameTxn_cfgWrite (d0 d1 : Byte) (a : BusAnswer) :
    frameTxn (.cfgWrite d0 d1) a = cfgWriteTxn d0 d1 a := rfl
@[simp] theorem frameTxn_tempRead (a : BusAnswer) : frameTxn .tempRead a = tempReadTxn a := rfl

/-- What one step from `s` leaves. -/
inductive Stepped (s : State) : State → Prop
  | waits (hp : presented s = none) (hi : s.phase = .idle) : Stepped s { s with host := (hostAfter s).host }
  | refuses (w : Byte) (hp : presented s = some w)
      (hw : (decodeCommand w).isOk = false ∨ ready s = false) :
      Stepped s { s with host := (hostAfter s).host, refused := 1 }
  | acceptsInit (o p : Bit) (r : BitVec 2) (t : Bit) (hp : presented s = some (initWord o p r t))
      (hr : ready s = true) :
      Stepped s { s with
        host := (hostAfter s).host, lOs := o, lPol := p, lRate := r, lTm := t
        busy := 1, phase := .iPre, hist := s.hist ++ [.cmd (initWord o p r t)] }
  | acceptsRead (hp : presented s = some 0x40) (hr : ready s = true) :
      Stepped s { s with
        host := (hostAfter s).host, busy := 1
        phase := if s.mOneshot = 1 then .rTrigRd else .rTemp, hist := s.hist ++ [.cmd 0x40] }
  | gets (c : Byte) (x : U32) (hp : presented s = some c) (hr : ready s = true)
      (hx : (c = 0x60 ∧ x = celsius32 s.tcode) ∨
        (c = 0x61 ∧ x = fahrenheit32 s.params.accessorArith s.tcode) ∨
        (c = 0x62 ∧ x = kelvin32 s.params.accessorArith s.tcode) ∨
        (c = 0x63 ∧ x = rankine32 s.params.accessorArith s.tcode)) :
      Stepped s { s with host := (hostAfter s).host, result := x, hist := s.hist ++ [.cmd c] }
  | mismatches (f : Frame) (hp : presented s = none) (hf : phaseFrame s = some f)
      (hn : (nextAnswer s).count ≠ expectedCount s.params f) :
      Stepped s { endedByMismatch s (frameTxn f (nextAnswer s)) (expectedCount s.params f) (nextAnswer s).count with
        host := (hostAfter s).host, polls := if s.phase = .rPoll then s.polls + 1 else s.polls }
  | iPre (hp : presented s = none) (hi : s.phase = .iPre) :
      Stepped s { s with
        host := (hostAfter s).host, phase := .iRd, hist := s.hist ++ [.wait s.params.tInitPreMs] }
  | iRd (hp : presented s = none) (hi : s.phase = .iRd) (hn : (nextAnswer s).count = s.params.expCfgRead) :
      Stepped s { answered s (cfgReadTxn (nextAnswer s)) with
        host := (hostAfter s).host, phase := .iWr
        cfgbuf0 := (nextAnswer s).byte0, cfgbuf1 := (nextAnswer s).byte1 }
  | iWr (hp : presented s = none) (hi : s.phase = .iWr) (hn : (nextAnswer s).count = s.params.expCfgWrite) :
      Stepped s { answered s (cfgWriteTxn (packByte0 (latched s) s.cfgbuf0) (packByte1 (latched s) s.cfgbuf1)
          (nextAnswer s)) with
        host := (hostAfter s).host, phase := .iPost }
  | iPost (hp : presented s = none) (hi : s.phase = .iPost) :
      Stepped s { s with
        host := (hostAfter s).host, mOneshot := s.lOs, mPol := s.lPol, mRate := s.lRate, mTm := s.lTm
        status := 0, busy := 0, phase := .idle, hist := s.hist ++ [.wait s.params.tInitPostMs, .done 0] }
  | rTrigRd (hp : presented s = none) (hi : s.phase = .rTrigRd)
      (hn : (nextAnswer s).count = s.params.expCfgRead) :
      Stepped s { answered s (cfgReadTxn (nextAnswer s)) with
        host := (hostAfter s).host
        phase := if (nextAnswer s).byte0.getLsbD s.params.gateBit.index then .rTrigWr else .rTemp
        cfgbuf0 := (nextAnswer s).byte0, cfgbuf1 := (nextAnswer s).byte1 }
  | rTrigWr (hp : presented s = none) (hi : s.phase = .rTrigWr)
      (hn : (nextAnswer s).count = s.params.expCfgWrite) :
      Stepped s { answered s (cfgWriteTxn (triggerByte0 s.cfgbuf0) s.cfgbuf1 (nextAnswer s)) with
        host := (hostAfter s).host, phase := .rTrigDly }
  | rTrigDly (hp : presented s = none) (hi : s.phase = .rTrigDly) :
      Stepped s { s with
        host := (hostAfter s).host, polls := 0, phase := .rPoll, hist := s.hist ++ [.wait s.params.tTrigMs] }
  | pollReady (hp : presented s = none) (hi : s.phase = .rPoll)
      (hn : (nextAnswer s).count = s.params.expCfgRead) (ho : (nextAnswer s).byte0.getLsbD 7 = true) :
      Stepped s { answered s (cfgReadTxn (nextAnswer s)) with
        host := (hostAfter s).host, polls := s.polls + 1, phase := .rTemp
        cfgbuf0 := (nextAnswer s).byte0, cfgbuf1 := (nextAnswer s).byte1 }
  | pollTimeout (n : Nat) (hp : presented s = none) (hi : s.phase = .rPoll)
      (hn : notReady s.params (nextAnswer s)) (hl : s.params.pollLimit = some n) (hm : n ≤ s.polls + 1) :
      Stepped s { answered s (cfgReadTxn (nextAnswer s)) with
        host := (hostAfter s).host, polls := s.polls + 1
        cfgbuf0 := (nextAnswer s).byte0, cfgbuf1 := (nextAnswer s).byte1
        status := 2, busy := 0, phase := .idle, hist := s.hist ++ [cfgReadTxn (nextAnswer s), .done 2] }
  | pollAgain (hp : presented s = none) (hi : s.phase = .rPoll) (hn : notReady s.params (nextAnswer s))
      (hl : ∀ n, s.params.pollLimit = some n → s.polls + 1 < n) :
      Stepped s { answered s (cfgReadTxn (nextAnswer s)) with
        host := (hostAfter s).host, polls := s.polls + 1
        cfgbuf0 := (nextAnswer s).byte0, cfgbuf1 := (nextAnswer s).byte1 }
  | rTemp (hp : presented s = none) (hi : s.phase = .rTemp)
      (hn : (nextAnswer s).count = s.params.expTempRead) :
      Stepped s { answered s (tempReadTxn (nextAnswer s)) with
        host := (hostAfter s).host, tbuf0 := (nextAnswer s).byte0, tbuf1 := (nextAnswer s).byte1
        tcode := tempCode (nextAnswer s).byte0 (nextAnswer s).byte1
        result := celsius32 (tempCode (nextAnswer s).byte0 (nextAnswer s).byte1)
        status := 0, busy := 0, phase := .idle
        hist := s.hist ++ [tempReadTxn (nextAnswer s), .done 0] }

/-- The host's agenda plays no part in what the executor answers. -/
@[simp] theorem nextAnswer_hostAfter (s : State) : nextAnswer (hostAfter s) = nextAnswer s := by
  simp [nextAnswer]

@[simp] theorem takeAnswer_hostAfter_answers (s : State) :
    (takeAnswer (hostAfter s)).answers = (takeAnswer s).answers := by
  unfold takeAnswer
  simp only [hostAfter_answers]
  split <;> simp_all

@[simp] theorem takeAnswer_hostAfter_draws (s : State) :
    (takeAnswer (hostAfter s)).draws = (takeAnswer s).draws := by
  unfold takeAnswer
  simp only [hostAfter_answers]
  split <;> simp

@[simp] theorem ready_hostAfter (s : State) : ready (hostAfter s) = ready s := by simp [ready]

/-- A failed transaction's step, in any phase. -/
theorem mismatch_state {s : State} {f : Frame} {ph : Phase} {store : BusAnswer → State → State}
    (hi : s.phase = ph) (hn : (nextAnswer s).count ≠ expectedCount s.params f) :
    afterPhase ph (transact f store (hostAfter s)) =
      { endedByMismatch s (frameTxn f (nextAnswer s)) (expectedCount s.params f) (nextAnswer s).count with
        host := (hostAfter s).host, polls := if s.phase = .rPoll then s.polls + 1 else s.polls } := by
  subst hi
  rw [transact_mismatch (by simpa using hn), afterPhase_ended (by simp)]
  ext <;> simp [endedByMismatch, frameTxn]

/-- Every step is one of the named cases. -/
theorem step_stepped {s t : State} (h : step s = .next t) : Stepped s t := by
  rcases step_cases h with ⟨hp, hi, rfl⟩ | ⟨w, e, hp, hd, rfl⟩ | ⟨w, i, hp, hd, hx⟩ | ⟨i, u, hp, hi, _, _⟩
  · rw [hostAfter_eq]
    exact .waits hp hi
  · have : refuse (hostAfter s) = { s with host := (hostAfter s).host, refused := 1 } := by ext <;> simp
    rw [this]
    exact .refuses w hp (.inl (by simp [hd, Except.isOk, Except.toBool]))
  · obtain ⟨hf, henc⟩ := decodeCommand_ok hd
    rcases exec_command_cases hf hx with ⟨hr, rfl⟩ | ⟨hr, hx⟩
    · have : refuse (hostAfter s) = { s with host := (hostAfter s).host, refused := 1 } := by ext <;> simp
      rw [this]
      exact .refuses w hp (.inr (by simpa using hr))
    · have hr : ready s = true := by simpa using hr
      rcases hx with ⟨o, p, r, th, rfl, rfl⟩ | ⟨rfl, rfl⟩ | ⟨rfl, rfl⟩ | ⟨rfl, rfl⟩ | ⟨rfl, rfl⟩ | ⟨rfl, rfl⟩
      · obtain rfl : initWord o p r th = w := by simpa [encode] using henc
        convert Stepped.acceptsInit o p r th hp hr using 1
        ext <;> simp [acceptInit]
      · obtain rfl : 0x40 = w := by simpa [encode] using henc
        convert Stepped.acceptsRead hp hr using 1
        ext <;> simp [acceptRead]
      · obtain rfl : 0x60 = w := by simpa [encode] using henc
        convert Stepped.gets 0x60 (celsius32 s.tcode) hp hr (.inl ⟨rfl, rfl⟩) using 1
        ext <;> simp
      · obtain rfl : 0x61 = w := by simpa [encode] using henc
        convert Stepped.gets 0x61 _ hp hr (.inr (.inl ⟨rfl, rfl⟩)) using 1
        ext <;> simp
      · obtain rfl : 0x62 = w := by simpa [encode] using henc
        convert Stepped.gets 0x62 _ hp hr (.inr (.inr (.inl ⟨rfl, rfl⟩))) using 1
        ext <;> simp
      · obtain rfl : 0x63 = w := by simpa [encode] using henc
        convert Stepped.gets 0x63 _ hp hr (.inr (.inr (.inr ⟨rfl, rfl⟩))) using 1
        ext <;> simp
  · cases hph : s.phase with
    | idle => simp [phaseInstr, hph] at hi
    | iPre =>
      rw [step_iPre hp hph] at h
      cases h
      convert Stepped.iPre hp hph using 1
      ext <;> simp
    | iPost =>
      rw [step_iPost hp hph] at h
      cases h
      convert Stepped.iPost hp hph using 1
      ext <;> simp [finishOk, statusOk]
    | rTrigDly =>
      rw [step_rTrigDly hp hph] at h
      cases h
      convert Stepped.rTrigDly hp hph using 1
      ext <;> simp
    | iRd =>
      rw [step_iRd hp hph] at h
      cases h
      by_cases hn : (nextAnswer s).count = s.params.expCfgRead
      · convert Stepped.iRd hp hph hn using 1
        rw [transact_passes (by simpa using hn), afterPhase_running (by simp [hph]), countPoll_of_ne (by simp)]
        ext <;> simp [advance, answered, cfgReadTxn]
      · rw [mismatch_state hph (by simpa using hn)]
        exact .mismatches _ hp (by simp [phaseFrame, hph]) (by simpa using hn)
    | iWr =>
      rw [step_iWr hp hph] at h
      cases h
      by_cases hn : (nextAnswer s).count = s.params.expCfgWrite
      · convert Stepped.iWr hp hph hn using 1
        rw [transact_passes (by simpa using hn), afterPhase_running (by simp [hph]), countPoll_of_ne (by simp)]
        ext <;> simp [advance, answered, cfgWriteTxn]
      · rw [mismatch_state hph (by simpa using hn)]
        exact .mismatches _ hp (by simp [phaseFrame, hph]) (by simpa using hn)
    | rTrigRd =>
      rw [step_rTrigRd hp hph] at h
      cases h
      by_cases hn : (nextAnswer s).count = s.params.expCfgRead
      · convert Stepped.rTrigRd hp hph hn using 1
        rw [transact_passes (by simpa using hn), afterPhase_running (by simp [hph]), countPoll_of_ne (by simp)]
        ext <;> simp [advance, answered, cfgReadTxn, gateOpen]
      · rw [mismatch_state hph (by simpa using hn)]
        exact .mismatches _ hp (by simp [phaseFrame, hph]) (by simpa using hn)
    | rTrigWr =>
      rw [step_rTrigWr hp hph] at h
      cases h
      by_cases hn : (nextAnswer s).count = s.params.expCfgWrite
      · convert Stepped.rTrigWr hp hph hn using 1
        rw [transact_passes (by simpa using hn), afterPhase_running (by simp [hph]), countPoll_of_ne (by simp)]
        ext <;> simp [advance, answered, cfgWriteTxn]
      · rw [mismatch_state hph (by simpa using hn)]
        exact .mismatches _ hp (by simp [phaseFrame, hph]) (by simpa using hn)
    | rTemp =>
      rw [step_rTemp hp hph] at h
      cases h
      by_cases hn : (nextAnswer s).count = s.params.expTempRead
      · convert Stepped.rTemp hp hph hn using 1
        rw [transact_passes (by simpa using hn), afterPhase_running (by simp [hph]), countPoll_of_ne (by simp)]
        ext <;> simp [advance, answered, tempReadTxn, finishOk, statusOk]
      · rw [mismatch_state hph (by simpa using hn)]
        exact .mismatches _ hp (by simp [phaseFrame, hph]) (by simpa using hn)
    | rPoll =>
      rw [step_rPoll hp hph] at h
      cases h
      by_cases hn : (nextAnswer s).count = s.params.expCfgRead
      · rw [transact_passes (by simpa using hn), afterPhase_running (by simp [hph])]
        simp only [advance, nextAnswer_hostAfter]
        rcases pollTest_cases (countPoll .rPoll (storeCfg (nextAnswer s) (bus .cfgRead (nextAnswer s) (hostAfter s))))
          with ⟨ho, hq⟩ | ⟨ho, hl, hq⟩ | ⟨ho, hl, hq⟩
        · rw [hq]
          convert Stepped.pollReady hp hph hn (by simpa [osSet] using ho) using 1
          ext <;> simp [answered, cfgReadTxn]
        · rw [hq]
          simp only [pollLimitReached, countPoll_params, storeCfg_params, bus_params, hostAfter_params] at hl
          split at hl
          · cases hl
          · next n hn' =>
            convert Stepped.pollTimeout n hp hph ⟨hn, by simpa [osSet] using ho⟩ hn' (by simpa using hl) using 1
            ext <;> simp [answered, cfgReadTxn, raisePollTimeout, statusPollTimeout]
        · rw [hq]
          convert Stepped.pollAgain hp hph ⟨hn, by simpa [osSet] using ho⟩ ?_ using 1
          · ext <;> simp [answered, cfgReadTxn, hph]
          · intro n hn'
            simpa [pollLimitReached, hn'] using hl
      · rw [mismatch_state hph (by simpa using hn)]
        exact .mismatches _ hp (by simp [phaseFrame, hph]) (by simpa using hn)

end Sys2Proof.Machine
end

