-- ==== Sys2Proof/Tests/Slice0.lean ====
section
/-! SUPPORT. Tests: ill-formed terms refused, words written bit by bit from 30_encoding.md, one step per test with the
result taken from 95_test_vectors.md, and a witness for the hypotheses of every statement that has some. -/

namespace Sys2Proof.Tests

open Sys2Proof Sys2Proof.Machine

/-- The spec's default parameters with ADDR_SEL = Ground (95_test_vectors.md section 3). -/
def params0 : Config.Params := defaultParams .ground 0 0

/-- The block after construction with them. -/
def block0 : State := .construct params0

/-- An idle block with a word at its port, the executor's answers and a cached code. -/
def idleWith (w : Byte) (as : List BusAnswer) : State := { block0 with host := [.issue w], answers := as, tcode := 0x190 }

/-- A block in a phase of a running command, `CFGBUF` = [0x61, 0xA0]. -/
def running (ph : Phase) (as : List BusAnswer) : State :=
  { block0 with
    busy := 1, phase := ph, answers := as, mOneshot := 1, lOs := 1, lRate := 2
    cfgbuf0 := 0x61, cfgbuf1 := 0xA0, tcode := 0x190, result := 0x41C80000 }

/-- The next state, if there is one. -/
def after (o : Host.Outcome State Fault Refusal) : Option State :=
  match o with
  | .next t => some t
  | .fault _ => none
  | .refused _ => none

/-! ## WellFormed: R8, R63 -/

theorem test_wf_refuses_poll_limit_zero : ({ params0 with pollLimit := some 0 }).wf = false := by decide
theorem test_wf_admits_poll_limit_one : ({ params0 with pollLimit := some 1 }).wf = true := by decide
theorem test_wf_refuses_delay_of_no_parameter : (Instr.delay 31).wf params0 = false := by decide
theorem test_wf_admits_the_trigger_delay : (Instr.delay 1).wf params0 = true := by decide

/-! ## Decode: R50, R51, R54, section 2.1 -/

theorem test_decode_init_bits : decodeCommand 0b00101101#8 = .ok (.init 0 1 2 1) := rfl
theorem test_decode_init_oneshot : decodeCommand 0b00110100#8 = .ok (.init 1 0 2 0) := rfl
theorem test_decode_read : decodeCommand 0b01000000#8 = .ok .read := rfl
theorem test_decode_getC : decodeCommand 0b01100000#8 = .ok .getC := rfl
theorem test_decode_getF : decodeCommand 0b01100001#8 = .ok .getF := rfl
theorem test_decode_getK : decodeCommand 0b01100010#8 = .ok .getK := rfl
theorem test_decode_getR : decodeCommand 0b01100011#8 = .ok .getR := rfl
theorem test_decode_cfgRead : decodeFrame [0b00000001#8] 2 = .ok .cfgRead := rfl
theorem test_decode_cfgWrite :
    decodeFrame [0b00000001#8, 0b01100001#8, 0b10100000#8] 0 = .ok (.cfgWrite 0x61 0xA0) := rfl
theorem test_decode_tempRead : decodeFrame [0b00000000#8] 2 = .ok .tempRead := rfl
theorem test_delay_has_no_bytes : encode (.delay 30) = [] ∧ decodeTableWord 0 0 = none := by decide
theorem test_reserved_major : decodeCommand 0b10100100#8 = .error (.reservedMajor 0xA4) := rfl
theorem test_reserved_read_operand : decodeCommand 0b01000001#8 = .error (.readOperand 0x41) := rfl
theorem test_reserved_get_operand : decodeCommand 0b01100100#8 = .error (.getOperand 0x64) := rfl
theorem test_no_frame_at_another_pointer : decodeFrame [0x02#8] 2 = .error (.noFrame [0x02] 2) := rfl
theorem test_no_frame_of_two_bytes : decodeFrame [0x01#8, 0x61#8] 0 = .error (.noFrame [0x01, 0x61] 0) := rfl
theorem test_table_word_cfgWrite : decodeTableWord 24 0xA06101 = some (.cfgWrite 0x61 0xA0) := by decide +kernel
theorem test_assemble_numeric : assemble ["INIT", "1", "0", "2", "0"] = some (.init 1 0 2 0) := by decide +kernel
theorem test_assemble_refuses_a_code_out_of_range : assemble ["INIT", "1", "0", "2", "2"] = none := by decide +kernel
theorem test_assemble_pseudo : assemblePseudo ["READ_AS_K"] = some .readAsK := by decide

/-! ## One step per instruction -/

/-- Section 2.3: 0x60, 0xA0 under 0x3F pack to 0x67, 0xE0; 0x98, 0x15 under 0x2D to 0x9E, 0x95. -/
theorem test_pack_all_options : packByte0 ⟨1, 1, 3, 1⟩ 0x60 = 0x67 ∧ packByte1 ⟨1, 1, 3, 1⟩ 0xA0 = 0xE0 := by decide
theorem test_pack_keeps_the_rest : packByte0 ⟨0, 1, 2, 1⟩ 0x98 = 0x9E ∧ packByte1 ⟨0, 1, 2, 1⟩ 0x15 = 0x95 := by decide

/-- R67: INIT is accepted with its options latched. -/
theorem test_init_latches :
    (after (step (idleWith 0x2D []))).map (fun t => (t.lOs, t.lPol, t.lRate, t.lTm, t.busy, t.phase)) =
      some (0, 1, 2, 1, 1, .iPre) := by decide +kernel
/-- R67: I_WR writes the packed bytes (section 2.3, second row: 0x34 on 0x60, 0xA0). -/
theorem test_init_writes_the_packed_bytes :
    (after (step { running .iWr [⟨3, 0, 0⟩] with cfgbuf0 := 0x60 })).map (fun t => (t.hist, t.phase)) =
      some ([.txn [0x01, 0x61, 0xA0] 0 3 []], .iPost) := by decide +kernel
/-- R80: the path by `M_ONESHOT`. -/
theorem test_read_takes_the_mirror's_path :
    (after (step (idleWith 0x40 []))).map (·.phase) = some .rTemp ∧
    (after (step { idleWith 0x40 [] with mOneshot := 1 })).map (·.phase) = some .rTrigRd := by decide +kernel
/-- Section 2.4: bytes 0xFF, 0xF0 are -0.0625. -/
theorem test_read_of_a_negative_code :
    (after (step (running .rTemp [⟨3, 0xFF, 0xF0⟩]))).map (fun t => (t.tcode, t.result, t.status, t.busy)) =
      some (0xFFF, 0xBD800000, 0, 0) := by decide +kernel
/-- Section 2.5, rows 0x190 and 0xF00. -/
theorem test_getC : (after (step (idleWith 0x60 []))).map (·.result) = some 0x41C80000 := by decide +kernel
theorem test_getF : (after (step (idleWith 0x61 []))).map (·.result) = some 0x429A0000 := by decide +kernel
theorem test_getK : (after (step (idleWith 0x62 []))).map (·.result) = some 0x43951333 := by decide +kernel
theorem test_getR : (after (step (idleWith 0x63 []))).map (·.result) = some 0x44062AE1 := by decide +kernel
theorem test_getF_exact_then_round :
    fahrenheit32 .leftToRight 0xF00 = 0x404CCCD0 ∧ fahrenheit32 .exactThenRound 0xF00 = 0x404CCCCD := by decide +kernel
theorem test_getR_exact_then_round :
    rankine32 .leftToRight 0x7FF = 0x44347D47 ∧ rankine32 .exactThenRound 0x7FF = 0x44347D48 := by decide +kernel
/-- Section 2.2: the CFG_READ rows with count 2 and 3. -/
theorem test_cfgRead_passes :
    (after (exec .cfgRead (running .iRd [⟨2, 0x60, 0xA0⟩]))).map (fun t => (t.cfgbuf0, t.cfgbuf1, t.status)) =
      some (0x60, 0xA0, 0) := by decide +kernel
theorem test_cfgRead_mismatch :
    (after (exec .cfgRead (running .iRd [⟨3, 0x60, 0xA0⟩]))).map
      (fun t => (t.cfgbuf0, t.status, t.errExpected, t.errActual, t.phase)) =
      some (0x61, 1, 2, 3, .idle) := by decide +kernel
/-- Section 2.2: CFG_WRITE(0x61, 0xA0) with count 4. -/
theorem test_cfgWrite_mismatch :
    (after (exec (.cfgWrite 0x61 0xA0) (running .iWr [⟨4, 0, 0⟩]))).map
      (fun t => (t.hist, t.errExpected, t.errActual)) =
      some ([.txn [0x01, 0x61, 0xA0] 0 4 [], .done 1], 3, 4) := by decide +kernel
/-- Section 2.2: TEMP_READ with count 0xFFFFFFFF. -/
theorem test_tempRead_mismatch :
    (after (exec .tempRead (running .rTemp [⟨0xFFFFFFFF, 0x19, 0x00⟩]))).map
      (fun t => (t.tbuf0, t.errExpected, t.errActual, t.tcode, t.result)) =
      some (0x00, 3, 0xFFFFFFFF, 0x190, 0x41C80000) := by decide +kernel
/-- Section 2.2: DELAY(30). -/
theorem test_delay : (after (exec (.delay 30) block0)).map (·.hist) = some [.wait 30] := by decide +kernel
/-- Section 2.4, parameter variant: the OS test comes before the limit test. -/
theorem test_poll_os_before_limit :
    (after (step { running .rPoll [⟨2, 0xE1, 0xA0⟩] with params := { params0 with pollLimit := some 2 }, polls := 1 })).map
      (fun t => (t.phase, t.polls)) = some (.rTemp, 2) := by decide +kernel
/-- Section 2.4: a gate read 0x60 has bit 0 clear, so nothing is triggered; with the gate at bit 7, 0x61 does not trigger. -/
theorem test_gate_closed :
    (after (step (running .rTrigRd [⟨2, 0x60, 0xA0⟩]))).map (·.phase) = some .rTemp ∧
    (after (step { running .rTrigRd [⟨2, 0x61, 0xA0⟩] with params := { params0 with gateBit := .bit7 } })).map (·.phase) =
      some .rTemp := by decide +kernel
/-- Section 2.1: word 0x45 is refused, and nothing is recorded. -/
theorem test_reserved_word_refused :
    (after (step (idleWith 0x45 []))).map (fun t => (t.refused, t.hist, t.busy)) = some (1, [], 0) := by decide +kernel
/-- Section 2.6: ClockLine selects 0x4B. -/
theorem test_clock_line_address : (State.construct (defaultParams .clockLine 0 0)).addr7 = 0x4B := by decide

/-- R134: an idle block is at the end of the run when no command is left, empty slots or none; not while a word is left or
a command runs. -/
theorem test_end_of_run :
    block0.runOver = true ∧ ({ block0 with host := [.pass, .pass] }).runOver = true ∧
    ({ block0 with host := [.pass, .issue 0x40] }).runOver = false ∧ (running .iPost []).runOver = false := by decide

/-! ## Witnesses: the hypotheses of each statement met together, clause by clause -/

theorem witness_EveryInitWordLatchesItsFields :
    (0x20 ≤ (0x20#8).toNat ∧ (0x20#8).toNat ≤ 0x3F) ∧ (0x20 ≤ (0x3F#8).toNat ∧ (0x3F#8).toNat ≤ 0x3F) ∧
    ready block0 = true := by decide
theorem witness_DecodeAndEncodeAgree :
    (Instr.cfgWrite 0xFF 0).format ≠ .delayEvent ∧ decode .commandWord [0x3F#8] = .ok (.init 1 1 3 1) ∧
    decode .busFrame [0x00#8] = .ok .tempRead := ⟨by decide, rfl, rfl⟩
theorem witness_TableWordIsReadAndRun : (Instr.init 1 1 3 1).format ≠ .delayEvent ∧
    (Instr.cfgWrite 0xFF 0xFF).format ≠ .delayEvent := by decide
theorem witness_AssemblerReadsEveryCommand : (Instr.init 0 0 0 0).format = .commandWord ∧
    Instr.getR.format = .commandWord := by decide
theorem witness_StepRunsTheDecodedInstruction :
    (presented (idleWith 0x20 []) = some 0x20 ∧ decodeCommand 0x20 = .ok (.init 0 0 0 0)) ∧
    (presented (running .iPre []) = none ∧ phaseInstr (running .iPre []) = some (.delay 30) ∧
      ∃ t, exec (.delay 30) (hostAfter (running .iPre [])) = .next t) ∧
    (presented block0 = none ∧ block0.phase = .idle) :=
  ⟨⟨by decide, rfl⟩, ⟨by decide, by decide, _, rfl⟩, by decide⟩
theorem witness_EachPhaseIssuesItsTransaction :
    ∀ ph ∈ [Phase.iPre, .iRd, .iWr, .iPost, .rTrigRd, .rTrigWr, .rTrigDly, .rPoll, .rTemp, .idle],
      (running ph []).phase = ph := by decide
theorem witness_ReservedWordIsRefused :
    ∀ w ∈ [0x00#8, 0x1F#8, 0x41#8, 0x5F#8, 0x64#8, 0x7F#8, 0x80#8, 0xFF#8],
      presented (idleWith w []) = some w ∧ (decodeCommand w).isOk = false := by decide +kernel
theorem witness_WordWhileBusyIsRefused :
    Instr.getC.format = .commandWord ∧ (running .rPoll []).busy = 1 ∧
    ({ running .rPoll [] with host := [.force 0x60] }).host = .force 0x60 :: [] := by decide
theorem witness_HostAndExecutorListsAreServedInOrder :
    (let s := { running .iPre [] with host := [.issue 0x40] };
      (∃ t, step s = .next t) ∧ s.busy = 1 ∧ s.host = .issue 0x40 :: []) ∧
    (let s := idleWith 0x40 []; (∃ t, step s = .next t) ∧ s.busy = 0 ∧ s.host = .issue 0x40 :: []) ∧
    (let s := { block0 with host := [.force 0x40] }; (∃ t, step s = .next t) ∧ s.host = .force 0x40 :: []) ∧
    (let s := { block0 with host := [.pass] }; (∃ t, step s = .next t) ∧ s.host = .pass :: []) ∧
    (running .iRd [⟨2, 0, 0⟩]).answers = ⟨2, 0, 0⟩ :: [] :=
  ⟨⟨⟨_, rfl⟩, rfl, rfl⟩, ⟨⟨_, rfl⟩, rfl, rfl⟩, ⟨⟨_, rfl⟩, rfl⟩, ⟨⟨_, rfl⟩, rfl⟩, rfl⟩

/-- Frames: both clauses, at the expected count and one beside it. -/
theorem witness_CfgReadFillsCfgbufOrRaises :
    (nextAnswer (running .iRd [⟨2, 0, 0⟩])).count = (running .iRd []).params.expCfgRead ∧
    (nextAnswer (running .iRd [⟨3, 0, 0⟩])).count ≠ (running .iRd []).params.expCfgRead := by decide
theorem witness_CfgWriteSendsItsBytesOrRaises :
    (nextAnswer (running .iWr [⟨3, 0, 0⟩])).count = (running .iWr []).params.expCfgWrite ∧
    (nextAnswer (running .iWr [⟨2, 0, 0⟩])).count ≠ (running .iWr []).params.expCfgWrite := by decide
theorem witness_TempReadFillsTbufOrRaises :
    (nextAnswer (running .rTemp [⟨3, 0, 0⟩])).count = (running .rTemp []).params.expTempRead ∧
    (nextAnswer (running .rTemp [⟨0xFFFFFFFF, 0, 0⟩])).count ≠ (running .rTemp []).params.expTempRead := by decide
theorem witness_CountCheckIsExactEquality :
    (∃ t, (running .iRd []).phase ≠ .idle ∧ exec .cfgRead (running .iRd [⟨2, 1, 2⟩]) = .next t) ∧
    (∃ t, (running .iWr []).phase ≠ .idle ∧ exec (.cfgWrite 1 2) (running .iWr [⟨4, 0, 0⟩]) = .next t) ∧
    (∃ t, (running .rTemp []).phase ≠ .idle ∧ exec .tempRead (running .rTemp [⟨0, 1, 2⟩]) = .next t) :=
  ⟨⟨_, by decide, rfl⟩, ⟨_, by decide, rfl⟩, ⟨_, by decide, rfl⟩⟩

theorem witness_InitAndReadAreAcceptedWhenIdle :
    ready block0 = true ∧ block0.mOneshot = 0 ∧ ready { block0 with mOneshot := 1 } = true ∧
    ({ block0 with mOneshot := 1 }).mOneshot = 1 := by decide
theorem witness_PackingIsAnIdempotentReadModifyWrite :
    (0xF8#8).extractLsb' 0 1 = (0#1) ∧ (0xF8#8).extractLsb' 1 1 = (0#1) ∧ (0xF8#8).extractLsb' 2 1 = (0#1) ∧
    (0xFF#8).extractLsb' 6 2 = (3#2) := by decide
theorem witness_InitCompletesInFiveSteps :
    let s := idleWith (initWord 1 1 3 1) [⟨2, 0xFF, 0⟩, ⟨3, 0, 0⟩]
    ready s = true ∧ s.host = .issue (initWord 1 1 3 1) :: [] ∧ hostWaits [] = true ∧
    s.answers = ⟨2, 0xFF, 0⟩ :: ⟨3, 0, 0⟩ :: [] ∧ (2 : U32) = s.params.expCfgRead ∧
    (3 : U32) = s.params.expCfgWrite := by decide
theorem witness_FailedInitEndsAtOnce :
    (let s := idleWith (initWord 0 0 0 0) [⟨1, 0, 0⟩];
      ready s = true ∧ s.host = .issue (initWord 0 0 0 0) :: [] ∧ hostWaits [] = true ∧
      s.answers = ⟨1, 0, 0⟩ :: [] ∧ (1 : U32) ≠ s.params.expCfgRead) ∧
    (let s := idleWith (initWord 0 0 0 0) [⟨2, 0, 0⟩, ⟨4, 0, 0⟩];
      ready s = true ∧ s.host = .issue (initWord 0 0 0 0) :: [] ∧ hostWaits [] = true ∧
      s.answers = ⟨2, 0, 0⟩ :: ⟨4, 0, 0⟩ :: [] ∧ (2 : U32) = s.params.expCfgRead ∧
      (4 : U32) ≠ s.params.expCfgWrite) := by decide
theorem witness_InitLastStepCommitsTheMirror :
    presented (running .iPost []) = none ∧ (running .iPost []).phase = .iPost := by decide
/-- A step that writes the mirror. -/
theorem witness_OnlyASuccessfulInitWritesTheMirror :
    ∃ t, step { running .iPost [] with lPol := 1 } = .next t ∧ t.mPol = 1 := ⟨_, rfl, by decide⟩

theorem witness_FreeRunningReadIsOneTransaction :
    let s := idleWith 0x40 [⟨3, 0x80, 0⟩]
    ready s = true ∧ s.mOneshot = 0 ∧ s.host = .issue 0x40 :: [] ∧ hostWaits [] = true ∧
    s.answers = ⟨3, 0x80, 0⟩ :: [] ∧ (3 : U32) = s.params.expTempRead := by decide

/-- A one-shot READ with `n` polls before the one that reads OS = 1, under a poll limit (program P2's answers). -/
def oneShotRead (n : Nat) (limit : Option Nat) : State :=
  { idleWith 0x40 (⟨2, 0x61, 0xA0⟩ :: ⟨3, 0, 0⟩ ::
      (List.replicate n ⟨2, 0x61, 0xA0⟩ ++ ⟨2, 0xE1, 0xA0⟩ :: ⟨3, 0x19, 0⟩ :: [])) with
    mOneshot := 1, params := { params0 with pollLimit := limit } }

/-- No poll at all, and two polls at the limit of three. -/
theorem witness_OneShotReadCompletesAfterItsPolls :
    ∀ c ∈ [(0, none), (0, some 1), (2, some 3)], let s := oneShotRead c.1 c.2;
      ready s = true ∧ s.mOneshot = 1 ∧ s.host = .issue 0x40 :: [] ∧ hostWaits [] = true ∧
      s.answers = ⟨2, 0x61, 0xA0⟩ :: ⟨3, 0, 0⟩ ::
        (List.replicate c.1 ⟨2, 0x61, 0xA0⟩ ++ ⟨2, 0xE1, 0xA0⟩ :: ⟨3, 0x19, 0⟩ :: []) ∧
      (2 : U32) = s.params.expCfgRead ∧ (0x61#8).getLsbD s.params.gateBit.index = true ∧
      (3 : U32) = s.params.expCfgWrite ∧ (∀ a ∈ List.replicate c.1 (⟨2, 0x61, 0xA0⟩ : BusAnswer),
        a.count = s.params.expCfgRead ∧ a.byte0.getLsbD 7 = false) ∧
      (0xE1#8).getLsbD 7 = true ∧ (3 : U32) = s.params.expTempRead ∧
      (∀ n ∈ s.params.pollLimit, c.1 < n) := by decide
theorem witness_GateReadSelectsTriggerOrTemperature :
    ∀ c ∈ [(⟨2, 0x61, 0xA0⟩ : BusAnswer), ⟨2, 0x60, 0xA0⟩, ⟨3, 0x61, 0xA0⟩], let s := running .rTrigRd [c];
      presented s = none ∧ s.phase = .rTrigRd ∧ nextAnswer s = c ∧
      (c.count = s.params.expCfgRead ↔ c.count = 2) ∧
      (c.byte0.getLsbD s.params.gateBit.index = true ↔ c.byte0 = 0x61) := by decide
theorem witness_TriggerSetsOnlyTheOsBitThenWaits :
    (let s := running .rTrigWr [⟨3, 0, 0⟩];
      presented s = none ∧ s.phase = .rTrigWr ∧ (nextAnswer s).count = s.params.expCfgWrite) ∧
    (let s := running .rTrigWr [⟨2, 0, 0⟩];
      presented s = none ∧ s.phase = .rTrigWr ∧ (nextAnswer s).count ≠ s.params.expCfgWrite) ∧
    presented (running .rTrigDly []) = none ∧ (running .rTrigDly []).phase = .rTrigDly := by decide
/-- The four clauses of a poll: a failed count, OS = 1, the last poll of two; and the first of two. -/
theorem witness_PollTestsCountThenOsThenLimit :
    (∀ c ∈ [(⟨3, 0x61, 0xA0⟩ : BusAnswer), ⟨2, 0xE1, 0xA0⟩, ⟨2, 0x7F, 0xA0⟩],
      let s := { running .rPoll [c] with polls := 1, params := { params0 with pollLimit := some 2 } }
      presented s = none ∧ s.phase = .rPoll ∧ nextAnswer s = c ∧ (c.count = s.params.expCfgRead ↔ c.count = 2) ∧
      (c.byte0.getLsbD 7 = true ↔ c.byte0 = 0xE1) ∧ s.params.pollLimit = some 2 ∧ 2 ≤ s.polls + 1) ∧
    (let s := { running .rPoll [⟨2, 0x7F, 0xA0⟩] with params := { params0 with pollLimit := some 2 } };
      presented s = none ∧ s.phase = .rPoll ∧ ((nextAnswer s).count = s.params.expCfgRead ∧
        (nextAnswer s).byte0.getLsbD 7 = false) ∧ ∀ n ∈ s.params.pollLimit, s.polls + 1 < n) := by decide
theorem witness_PollRunsOnUntilItsLimit :
    ∀ limit ∈ [none, some 1],
      let s := { running .rPoll [⟨2, 0x61, 0xA0⟩] with params := { params0 with pollLimit := limit } }
      s.busy = 1 ∧ s.phase = .rPoll ∧ s.polls = 0 ∧ hostWaits s.host = true ∧ s.params.pollLimit = limit ∧
      s.answers = [⟨2, 0x61, 0xA0⟩] ++ [] ∧ 1 ≤ [(⟨2, 0x61, 0xA0⟩ : BusAnswer)].length ∧
      ∀ a ∈ [(⟨2, 0x61, 0xA0⟩ : BusAnswer)], a.count = s.params.expCfgRead ∧ a.byte0.getLsbD 7 = false := by decide
theorem witness_TemperatureReadUpdatesTheCache :
    (let s := running .rTemp [⟨3, 0x7F, 0xF0⟩];
      presented s = none ∧ s.phase = .rTemp ∧ (nextAnswer s).count = s.params.expTempRead) ∧
    (let s := running .rTemp [⟨2, 0xE7, 0x00⟩];
      presented s = none ∧ s.phase = .rTemp ∧ (nextAnswer s).count ≠ s.params.expTempRead) := by decide
/-- A step that writes `TCODE`, and one that ends a READ with an error. -/
theorem witness_OnlyAPassingTemperatureReadWritesTcode :
    (∃ t, step (running .rTemp [⟨3, 0x80, 0⟩]) = .next t ∧ t.tcode ≠ (running .rTemp []).tcode) ∧
    (∃ t, step (running .rTemp [⟨2, 0xE7, 0⟩]) = .next t ∧ readPhase .rTemp = true ∧
      presented (running .rTemp []) = none ∧
      t.hist = (running .rTemp []).hist ++ [.txn [0x00] 2 2 [0xE7, 0]] ++ [.done 1]) :=
  ⟨⟨_, rfl, by decide⟩, ⟨_, rfl, by decide, by decide, by decide⟩⟩
theorem witness_CacheIsTheLastPassingTemperatureRead :
    ∃ s t : State, s.tcode = lastCode s.params s.hist ∧ step s = .next t ∧ t.tcode = 0x190 :=
  ⟨{ running .rTemp [⟨3, 0x19, 0⟩] with tcode := 0 }, _, by decide, rfl, by decide⟩

theorem witness_CelsiusIsTheSignedCodeOverSixteen : celsius 0x001 = celsius 0x001 ∧ (0x800#12).getLsbD 11 = true :=
  ⟨rfl, by decide⟩
theorem witness_MagnitudeIdentityAndInverse :
    (0x800#12).getLsbD 11 = true ∧ (0xFFF#12).getLsbD 11 = true ∧ (0x7FF#12).getLsbD 11 = false ∧
    (0x000#12).getLsbD 11 = false := by decide
/-- A tie: 1 + 2^-24 lies midway between 0x3F800000, its rounding, and 0x3F800001. -/
theorem witness_RoundingIsToNearestTiesToEven_tie :
    let q : Rat := 1 + 1 / 2 ^ 24
    |q| ≤ value32 0x7F7FFFFF ∧ finite32 0x3F800001 = true ∧ |value32 (rnd32 q) - q| = |value32 0x3F800001 - q| ∧
    value32 0x3F800001 ≠ value32 (rnd32 q) := by decide +kernel
/-- At zero, and at the largest finite number. -/
theorem witness_RoundingIsToNearestTiesToEven :
    |(0 : Rat)| ≤ value32 0x7F7FFFFF ∧ |value32 0x7F7FFFFF| ≤ value32 0x7F7FFFFF ∧ finite32 0x7F7FFFFF = true ∧
    finite32 0x00000000 = true := by decide +kernel
/-- For the statements GetCWrites…, GetFWrites…, GetKWrites… and GetRWrites…: an idle block of each arithmetic. -/
theorem witness_accessors_of_both_arithmetics :
    (let s := block0; ready s = true ∧ s.params.accessorArith = .leftToRight) ∧
    (let s := State.construct { params0 with accessorArith := .exactThenRound };
      ready s = true ∧ s.params.accessorArith = .exactThenRound) := by decide
theorem witness_AccessorsArePure :
    ∃ t u v, isAccessor .getF = true ∧ isAccessor .getK = true ∧ ready block0 = true ∧
      exec .getF block0 = .next t ∧ exec .getK t = .next u ∧ exec .getK block0 = .next v :=
  ⟨_, _, _, rfl, rfl, by decide, rfl, rfl, rfl⟩

/-- A mismatch in each of the six transaction phases. -/
theorem witness_MismatchEndsTheCommandAtOnce :
    (∀ ph ∈ [Phase.iRd, .rTrigRd, .rPoll], let s := running ph [⟨3, 0, 0⟩];
      presented s = none ∧ phaseInstr s = some .cfgRead ∧ (nextAnswer s).count ≠ s.params.expCfgRead) ∧
    (∀ c ∈ [(Phase.iWr, 0x61#8), (.rTrigWr, 0xE1#8)], let s := running c.1 [⟨2, 0, 0⟩];
      presented s = none ∧ phaseInstr s = some (.cfgWrite c.2 0xA0) ∧
      (nextAnswer s).count ≠ s.params.expCfgWrite) ∧
    (let s := running .rTemp [⟨2, 0, 0⟩];
      presented s = none ∧ phaseInstr s = some .tempRead ∧ (nextAnswer s).count ≠ s.params.expTempRead) := by
  decide +kernel
theorem witness_ResultPortIsWrittenOnlyInTheFinalStep :
    ∃ t, step (running .rPoll [⟨2, 0x61, 0xA0⟩]) = .next t ∧ t.busy = 1 := ⟨_, rfl, by decide⟩
theorem witness_RefusedIsStickyAndSetOnlyByRefusal :
    (∃ t, step { block0 with refused := 1 } = .next t) ∧
    (∃ t, step (idleWith 0xFF []) = .next t ∧ t.refused ≠ (idleWith 0xFF []).refused) ∧
    (∃ t, step { running .iPre [] with host := [.force 0x60] } = .next t ∧ t.refused ≠ (running .iPre []).refused) :=
  ⟨⟨_, rfl⟩, ⟨_, rfl, by decide⟩, ⟨_, rfl, by decide⟩⟩
/-- A step that accepts an INIT: for NoStepWritesTheConstants, HistoryIsWrittenAndNeverRead and the other statements whose
one hypothesis is a step. -/
theorem witness_step_answers : ∃ t, step (idleWith 0x34 []) = .next t ∧ t.hist = [.cmd 0x34] := ⟨_, rfl, by decide⟩
theorem witness_UnreadElementsNeverMatter :
    ∃ t t', forgetUnread (running .iPost []) =
        forgetUnread { running .iPost [] with mPol := 1, mFaults := 3, addr7 := 0x4B } ∧
      step (running .iPost []) = .next t ∧
      step { running .iPost [] with mPol := 1, mFaults := 3, addr7 := 0x4B } = .next t' :=
  ⟨_, _, by decide, rfl, rfl⟩
/-- A step whose events hold a `Done`. -/
theorem witness_ACommandEndsOnce :
    ∃ t, step (running .iPost []) = .next t ∧ Event.done 0 ∈ [Event.wait 30, .done 0] ∧
      t.hist = (running .iPost []).hist ++ [.wait 30, .done 0] := ⟨_, rfl, by decide, by decide⟩
/-- Section 2.4: bytes 0x19, 0x00 and 0x19, 0x0F. -/
theorem witness_LowNibbleOfTheTemperatureIsIgnored :
    ∃ t t', presented (running .rTemp []) = none ∧ (running .rTemp []).phase = .rTemp ∧
      (0x00#8).extractLsb' 4 4 = (0x0F#8).extractLsb' 4 4 ∧
      step { running .rTemp [] with answers := ⟨3, 0x19, 0x00⟩ :: [] } = .next t ∧
      step { running .rTemp [] with answers := ⟨3, 0x19, 0x0F⟩ :: [] } = .next t' :=
  ⟨_, _, by decide, by decide, by decide, rfl, rfl⟩

/-- A running READ meets the control invariant, and steps. -/
theorem witness_EveryStepKeepsControlConsistent :
    ControlInv (running .rPoll [⟨2, 0x61, 0xA0⟩]) ∧ ∃ t, step (running .rPoll [⟨2, 0x61, 0xA0⟩]) = .next t :=
  ⟨⟨by decide, by decide, by decide, by decide, by decide, by decide, by decide, fun _ _ _ h => by cases h⟩, _, rfl⟩
theorem witness_RegistersFollowTheHistory :
    FollowsHistory (idleWith 0x40 [] |> fun s => { s with tcode := 0 }) ∧
    ∃ t, step { idleWith 0x40 [] with tcode := 0 } = .next t :=
  ⟨⟨by decide, by decide, by decide, by decide, by decide, by decide, by decide⟩, _, rfl⟩
theorem witness_HistoryHoldsOnlyTheBlocksEvents :
    (∀ e ∈ [Event.cmd 0x34, .wait 30, .txn [0x01] 2 3 [0, 0], .done 1], eventLegal params0 e = true) ∧
    ∃ t, step { block0 with hist := [.cmd 0x34, .wait 30, .txn [0x01] 2 3 [0, 0], .done 1] } = .next t :=
  ⟨by decide +kernel, _, rfl⟩
theorem witness_OnlyThePollCanRunForEver :
    (running .iPre []).busy = 1 ∧ hostWaits (running .iPre []).host = true ∧ (running .iPre []).phase ≠ .rPoll := by
  decide
theorem witness_BoundedPollEndsEveryCommand :
    let s := { running .rPoll [] with params := { params0 with pollLimit := some 1 } }
    s.busy = 1 ∧ hostWaits s.host = true ∧ s.params.pollLimit = some 1 ∧ 1 ≤ 1 := by decide
theorem witness_ConstructionLeavesTheResetValues :
    (defaultParams .ground 0 1).addrSel = .ground ∧ (defaultParams .supply 0 1).addrSel = .supply ∧
    (defaultParams .dataLine 0 1).addrSel = .dataLine ∧ (defaultParams .clockLine 0 1).addrSel = .clockLine := by decide

end Sys2Proof.Tests
end

section
/-! PROOFS. The result port while a command runs (00_scope.md R7). -/

namespace Sys2Proof.Machine

open Sys2Proof

/-- The steps that write a register of the result port are the accessors, carried out by an idle block, and the final steps
of INIT and READ: all leave `BUSY = 0`. -/
theorem Stepped.resultPort_kept {s t : State} (h : Stepped s t) (hb : t.busy = 1) :
    t.status = s.status ∧ t.errExpected = s.errExpected ∧ t.errActual = s.errActual ∧ t.result = s.result := by
  cases h with
  | gets c x hp hr hx =>
    have hidle : s.busy = 0 := (ready_iff.1 hr).2
    exact absurd (hidle.symm.trans hb) (by decide)
  | mismatches | iPost | pollTimeout | rTemp =>
    have hended : (0 : Bit) = 1 := hb
    exact absurd hended (by decide)
  | waits | refuses | acceptsInit | acceptsRead | iPre | iRd | iWr | rTrigRd | rTrigWr | rTrigDly | pollReady
  | pollAgain => exact ⟨rfl, rfl, rfl, rfl⟩

/-- Settles O47, by the inversion of a step. -/
theorem resultPortIsWrittenOnlyInTheFinalStep : Obligations.ResultPortIsWrittenOnlyInTheFinalStep :=
  fun _ _ h hb => (step_stepped h).resultPort_kept hb

end Sys2Proof.Machine
end

section
/-! PROOFS. Which steps write the mirror (10_state.md R14, R19), the temperature cache (R20, 42_acquisition.md R94) and
`REFUSED` (R32). -/

namespace Sys2Proof.Machine

open Sys2Proof

/-- No constructor of `Stepped` writes `M_FAULTS` (R19). -/
theorem Stepped.mFaults_kept {s t : State} (h : Stepped s t) : t.mFaults = s.mFaults := by
  cases h <;> rfl

/-- Only INIT's last step, `iPost`, writes the mirror. -/
theorem Stepped.mirror_kept_or_committed {s t : State} (h : Stepped s t) :
    (t.mOneshot = s.mOneshot ∧ t.mPol = s.mPol ∧ t.mRate = s.mRate ∧ t.mTm = s.mTm) ∨
    (s.phase = .iPost ∧ t.phase = .idle ∧ t.status = 0 ∧
      t.mOneshot = s.lOs ∧ t.mPol = s.lPol ∧ t.mRate = s.lRate ∧ t.mTm = s.lTm) := by
  cases h with
  | iPost hp hi => exact .inr ⟨hi, rfl, rfl, rfl, rfl, rfl, rfl⟩
  | waits | refuses | acceptsInit | acceptsRead | gets | mismatches | iPre | iRd | iWr | rTrigRd | rTrigWr
  | rTrigDly | pollReady | pollTimeout | pollAgain | rTemp => exact .inl ⟨rfl, rfl, rfl, rfl⟩

/-- Settles O25, by the inversion of a step. -/
theorem onlyASuccessfulInitWritesTheMirror : Obligations.OnlyASuccessfulInitWritesTheMirror :=
  fun _ _ h => ⟨(step_stepped h).mFaults_kept, (step_stepped h).mirror_kept_or_committed⟩

/-- Only READ's last step, `rTemp`, taken when the count passed, writes `TCODE`. -/
theorem Stepped.tcode_kept_or_cached {s t : State} (h : Stepped s t) :
    t.tcode = s.tcode ∨
    (s.phase = .rTemp ∧ (nextAnswer s).count = s.params.expTempRead ∧
      t.tcode = tempCode (nextAnswer s).byte0 (nextAnswer s).byte1 ∧ t.phase = .idle ∧ t.status = 0) := by
  cases h with
  | rTemp hp hi hn => exact .inr ⟨hi, hn, rfl, rfl, rfl⟩
  | waits | refuses | acceptsInit | acceptsRead | gets | mismatches | iPre | iRd | iWr | iPost | rTrigRd | rTrigWr
  | rTrigDly | pollReady | pollTimeout | pollAgain => exact .inl rfl

/-- With no word at the port, a step that ends a command with an error keeps the cache and `RESULT`: the step that writes
them, `rTemp`, records `Done(0)`. -/
theorem Stepped.cache_and_result_kept_of_error {s t : State} (h : Stepped s t) (hp : presented s = none)
    {es : List Event} {st : BitVec 2} (hd : t.hist = s.hist ++ es ++ [.done st]) (hst : st ≠ 0) :
    t.tcode = s.tcode ∧ t.result = s.result := by
  cases h with
  | gets c x hc => exact absurd (hp.symm.trans hc) nofun
  | rTemp =>
    have hlast : st = 0 := by simpa using (congrArg List.getLast? hd).symm
    exact absurd hlast hst
  | waits | refuses | acceptsInit | acceptsRead | mismatches | iPre | iRd | iWr | iPost | rTrigRd | rTrigWr
  | rTrigDly | pollReady | pollTimeout | pollAgain => exact ⟨rfl, rfl⟩

/-- Settles O33, by the inversion of a step; the reset value is construction's. -/
theorem onlyAPassingTemperatureReadWritesTcode : Obligations.OnlyAPassingTemperatureReadWritesTcode :=
  ⟨fun _ _ h hne => (step_stepped h).tcode_kept_or_cached.resolve_left hne,
    fun _ => rfl,
    fun _ _ _ _ _ hp h hd hst => (step_stepped h).cache_and_result_kept_of_error hp hd hst⟩

/-- Only a refusal writes `REFUSED`: it sets it and changes nothing else but the host's agenda (R116, R117). -/
theorem Stepped.refused_kept_or_set {s t : State} (h : Stepped s t) :
    t.refused = s.refused ∨
    (t = { s with host := t.host, refused := 1 } ∧
      ∃ w, presented s = some w ∧ ((decodeCommand w).isOk = false ∨ ready s = false)) := by
  cases h with
  | refuses w hp hw => exact .inr ⟨rfl, w, hp, hw⟩
  | waits | acceptsInit | acceptsRead | gets | mismatches | iPre | iRd | iWr | iPost | rTrigRd | rTrigWr | rTrigDly
  | pollReady | pollTimeout | pollAgain | rTemp => exact .inl rfl

/-- Settles O48, by the inversion of a step: the two ways a step treats `REFUSED` both keep a 1. -/
theorem refusedIsStickyAndSetOnlyByRefusal : Obligations.RefusedIsStickyAndSetOnlyByRefusal := by
  intro s t h
  have hcases := (step_stepped h).refused_kept_or_set
  refine ⟨fun hs => ?_, hcases.resolve_left, fun _ => rfl⟩
  obtain hkept | ⟨hset, -⟩ := hcases
  · exact hkept.trans hs
  · rw [hset]

end Sys2Proof.Machine
end

section
/-! PROOFS. The fields of an INIT word (30_encoding.md R51, R52) and of the temperature code (R49, 42_acquisition.md
R90). -/

namespace Sys2Proof.Machine

open Sys2Proof

/-- R51: the words 0x20 to 0x3F are those of INIT's major opcode `c[7:5]`. -/
theorem initMajor_of_range {c : Byte} (hlo : 0x20 ≤ c.toNat) (hhi : c.toNat ≤ 0x3F) :
    c.extractLsb' 5 3 = 0b001#3 := by
  apply BitVec.eq_of_toNat_eq
  have hdiv : c.toNat / 32 = 1 := by omega
  simp [BitVec.extractLsb'_toNat, Nat.shiftRight_eq_div_pow, hdiv]

/-- R51: the fields of an INIT word, side by side from the major opcode down, are the whole word. -/
theorem initFields_append (c : Byte) :
    c.extractLsb' 5 3 ++ c.extractLsb' 4 1 ++ c.extractLsb' 3 1 ++ c.extractLsb' 1 2 ++ c.extractLsb' 0 1 = c := by
  rw [BitVec.extractLsb'_append_extractLsb'_eq_extractLsb' (rfl : 5 = 4 + 1),
    BitVec.extractLsb'_append_extractLsb'_eq_extractLsb' (rfl : 4 = 3 + 1),
    BitVec.extractLsb'_append_extractLsb'_eq_extractLsb' (rfl : 3 = 1 + 2),
    BitVec.extractLsb'_append_extractLsb' (w := 7) (len := 1)]

/-- R51, R52: a word of INIT's major opcode is the INIT word of its own operand fields. -/
theorem initWord_fields {c : Byte} (h : c.extractLsb' 5 3 = 0b001#3) :
    initWord (c.extractLsb' 4 1) (c.extractLsb' 3 1) (c.extractLsb' 1 2) (c.extractLsb' 0 1) = c := by
  have hfields := initFields_append c
  rwa [h] at hfields

/-- R52, R55: every word 0x20 to 0x3F decodes to INIT, its operands the bits of the word. -/
theorem decodeCommand_initRange {c : Byte} (hlo : 0x20 ≤ c.toNat) (hhi : c.toNat ≤ 0x3F) :
    decodeCommand c = .ok (initOfWord c) := by
  have hdecode := decodeCommand_initWord (c.extractLsb' 4 1) (c.extractLsb' 3 1) (c.extractLsb' 1 2) (c.extractLsb' 0 1)
  rwa [initWord_fields (initMajor_of_range hlo hhi)] at hdecode

/-- R67: a ready block accepts an INIT. -/
theorem exec_init_ready {s : State} (h : ready s = true) (o p : Bit) (r : BitVec 2) (t : Bit) :
    exec (.init o p r t) s = .next (acceptInit o p r t s) :=
  congrArg Host.Outcome.next (whenReady_ready h)

/-- Settles O2: the word is the INIT word of its fields, and a ready block latches an INIT's operands. -/
theorem everyInitWordLatchesItsFields : Obligations.EveryInitWordLatchesItsFields :=
  fun _ _ hlo hhi hr =>
    ⟨_, _, decodeCommand_initRange hlo hhi, rfl, exec_init_ready hr _ _ _ _, rfl, rfl, rfl, rfl⟩

/-- R49: the code is bits 15:4 of the two bytes side by side. -/
theorem tempCode_eq_extract (b0 b1 : Byte) : tempCode b0 b1 = (b0 ++ b1).extractLsb' 4 12 := by
  have hhigh : (b0 ++ b1).extractLsb' 8 8 = b0 := BitVec.extractLsb'_append_eq_left
  have hlow : (b0 ++ b1).extractLsb' 4 4 = b1.extractLsb' 4 4 := BitVec.extractLsb'_append_eq_of_add_le (by decide)
  calc tempCode b0 b1
      _ = b0 ++ b1.extractLsb' 4 4 := tempCode_eq_append b0 b1
      _ = (b0 ++ b1).extractLsb' 8 8 ++ (b0 ++ b1).extractLsb' 4 4 := by rw [hhigh, hlow]
      _ = (b0 ++ b1).extractLsb' 4 12 := BitVec.extractLsb'_append_extractLsb'_eq_extractLsb' rfl

/-- R49: `code[11:4]` is byte0. -/
theorem tempCode_high_byte (b0 b1 : Byte) : (tempCode b0 b1).extractLsb' 4 8 = b0 := by
  rw [tempCode_eq_append]
  exact BitVec.extractLsb'_append_eq_left

/-- R49: `code[3:0]` is the high nibble of byte1. -/
theorem tempCode_high_nibble (b0 b1 : Byte) : (tempCode b0 b1).extractLsb' 0 4 = b1.extractLsb' 4 4 := by
  rw [tempCode_eq_append]
  exact BitVec.extractLsb'_append_eq_right

/-- R48, R90: clearing the low nibble of byte1 does not change the code. -/
theorem tempCode_clear_low_nibble (b0 b1 : Byte) : tempCode b0 (b1 &&& 0xF0#8) = tempCode b0 b1 := by
  have hmask : (0xF0#8).extractLsb' 4 4 = BitVec.allOnes 4 := by decide
  apply tempCode_low_nibble
  rw [BitVec.extractLsb'_and, hmask, BitVec.and_allOnes]

/-- R49: the code's sign bit is byte0's. -/
theorem tempCode_msb (b0 b1 : Byte) : (tempCode b0 b1).msb = b0.msb := by
  rw [tempCode_eq_append]
  exact BitVec.msb_append

/-- Settles O35, by reading the code as byte0 followed by the high nibble of byte1. -/
theorem codeIsTheTopTwelveBits : Obligations.CodeIsTheTopTwelveBits :=
  fun b0 b1 =>
    ⟨rfl, tempCode_high_byte b0 b1, tempCode_high_nibble b0 b1, tempCode_eq_extract b0 b1,
      tempCode_clear_low_nibble b0 b1, tempCode_msb b0 b1, BitVec.le_toInt _, BitVec.toInt_le⟩

end Sys2Proof.Machine
end

section
/-! PROOFS. The bus frames and their count check (40_bus_transactions.md R60 to R62, R64). -/

namespace Sys2Proof.Machine

open Sys2Proof

/-- R10: an executor call takes the answer and records the frame's event. -/
theorem bus_eq_answered (f : Frame) (s : State) :
    bus f (nextAnswer s) s = answered s (frameTxn f (nextAnswer s)) :=
  bus_eq f (nextAnswer s) s

/-- R64: at the expected count the received bytes are stored after the call. -/
theorem transact_eq_store_answered (f : Frame) {s : State} (store : BusAnswer → State → State)
    (hn : (nextAnswer s).count = expectedCount s.params f) :
    transact f store s = store (nextAnswer s) (answered s (frameTxn f (nextAnswer s))) := by
  rw [transact_passes hn, bus_eq_answered]

/-- R64, R111: at any other count the command ends, whatever the frame would have stored. -/
theorem transact_eq_endedByMismatch (f : Frame) {s : State} (store : BusAnswer → State → State)
    (hn : (nextAnswer s).count ≠ expectedCount s.params f) :
    transact f store s =
      endedByMismatch s (frameTxn f (nextAnswer s)) (expectedCount s.params f) (nextAnswer s).count := by
  rw [transact_mismatch hn]
  ext <;> simp [endedByMismatch, frameTxn]

/-- Settles O14: CFG_READ is the transaction that stores into `CFGBUF`. -/
theorem cfgReadFillsCfgbufOrRaises : Obligations.CfgReadFillsCfgbufOrRaises :=
  fun _ =>
    ⟨fun hn => congrArg Host.Outcome.next (transact_eq_store_answered .cfgRead storeCfg hn),
      fun hn => congrArg Host.Outcome.next (transact_eq_endedByMismatch .cfgRead storeCfg hn)⟩

/-- Settles O15: CFG_WRITE is the transaction that stores nothing. -/
theorem cfgWriteSendsItsBytesOrRaises : Obligations.CfgWriteSendsItsBytesOrRaises :=
  fun _ d0 d1 =>
    ⟨fun hn => congrArg Host.Outcome.next (transact_eq_store_answered (.cfgWrite d0 d1) (fun _ s => s) hn),
      fun hn => congrArg Host.Outcome.next (transact_eq_endedByMismatch (.cfgWrite d0 d1) (fun _ s => s) hn)⟩

/-- Settles O16: TEMP_READ is the transaction that stores into `TBUF`. -/
theorem tempReadFillsTbufOrRaises : Obligations.TempReadFillsTbufOrRaises :=
  fun _ =>
    ⟨fun hn => congrArg Host.Outcome.next (transact_eq_store_answered .tempRead storeTemp hn),
      fun hn => congrArg Host.Outcome.next (transact_eq_endedByMismatch .tempRead storeTemp hn)⟩

section CountCheck

variable {s : State} {store : BusAnswer → State → State}

/-- R64: a running command goes on exactly at the expected count, since a mismatch leaves IDLE. -/
theorem transact_phase_kept_iff (f : Frame) (hs : s.phase ≠ .idle)
    (hphase : ∀ a u, (store a u).phase = u.phase) :
    (nextAnswer s).count = expectedCount s.params f ↔ (transact f store s).phase = s.phase := by
  constructor
  · intro hn
    rw [transact_eq_store_answered f store hn]
    exact hphase _ _
  · intro hkept
    by_contra hn
    rw [transact_eq_endedByMismatch f store hn] at hkept
    exact hs hkept.symm

/-- R10, R64: a transaction that passes records its one event. -/
theorem transact_hist_passes {f : Frame} (hhist : ∀ a u, (store a u).hist = u.hist)
    (hn : (nextAnswer s).count = expectedCount s.params f) :
    (transact f store s).hist = s.hist ++ [frameTxn f (nextAnswer s)] := by
  rw [transact_eq_store_answered f store hn]
  exact hhist _ _

/-- R64 for any frame: the check is exact equality, a mismatch records the one transaction and the `Done`, and
stores none of its bytes. -/
theorem transact_count_check (f : Frame) (hs : s.phase ≠ .idle)
    (hphase : ∀ a u, (store a u).phase = u.phase) (hhist : ∀ a u, (store a u).hist = u.hist) :
    ((nextAnswer s).count = expectedCount s.params f ↔ (transact f store s).phase = s.phase) ∧
    ((nextAnswer s).count = expectedCount s.params f → ∃ e, (transact f store s).hist = s.hist ++ [e]) ∧
    ((nextAnswer s).count ≠ expectedCount s.params f →
      (∃ e, (transact f store s).hist = s.hist ++ [e, .done 1]) ∧
      (transact f store s).cfgbuf0 = s.cfgbuf0 ∧ (transact f store s).cfgbuf1 = s.cfgbuf1 ∧
      (transact f store s).tbuf0 = s.tbuf0 ∧ (transact f store s).tbuf1 = s.tbuf1) := by
  refine ⟨transact_phase_kept_iff f hs hphase, fun hn => ⟨_, transact_hist_passes hhist hn⟩, fun hn => ?_⟩
  rw [transact_eq_endedByMismatch f store hn]
  exact ⟨⟨_, rfl⟩, rfl, rfl, rfl, rfl⟩

end CountCheck

/-- Settles O18: each of the three frames is a transaction whose store keeps `PHASE` and `HIST`. -/
theorem countCheckIsExactEquality : Obligations.CountCheckIsExactEquality := by
  rintro s t i expected hs (⟨rfl, rfl⟩ | ⟨d0, d1, rfl, rfl⟩ | ⟨rfl, rfl⟩) h
  · cases h
    exact transact_count_check .cfgRead hs storeCfg_phase storeCfg_hist
  · cases h
    exact transact_count_check (.cfgWrite d0 d1) hs (fun _ _ => rfl) (fun _ _ => rfl)
  · cases h
    exact transact_count_check .tempRead hs storeTemp_phase storeTemp_hist

end Sys2Proof.Machine
end

section
/-! PROOFS. Configuration packing (41_config_packing.md R70, R71): the packed bytes as their fields side by side. -/

namespace Sys2Proof.Machine

open Sys2Proof

/-- R70: the packed byte0 is the bits 7:3 it had, then polarity, thermostat mode and one-shot. -/
theorem packByte0_eq_append (o : Options) (b0 : Byte) :
    packByte0 o b0 = b0.extractLsb' 3 5 ++ o.pol ++ o.tm ++ o.os := by
  apply BitVec.eq_of_getLsbD_eq
  intro i hi
  simp only [packByte0, BitVec.getLsbD_append]
  interval_cases i <;> simp

/-- R71: the packed byte1 is the rate code, then the bits 5:0 it had. -/
theorem packByte1_eq_append (o : Options) (b1 : Byte) : packByte1 o b1 = o.rate ++ b1.extractLsb' 0 6 := by
  apply BitVec.eq_of_getLsbD_eq
  intro i hi
  simp only [packByte1, BitVec.getLsbD_append]
  interval_cases i <;> simp

theorem packByte0_os (o : Options) (b0 : Byte) : (packByte0 o b0).extractLsb' 0 1 = o.os := by
  rw [packByte0_eq_append]
  exact BitVec.extractLsb'_append_eq_right

theorem packByte0_tm (o : Options) (b0 : Byte) : (packByte0 o b0).extractLsb' 1 1 = o.tm := by
  rw [packByte0_eq_append, BitVec.extractLsb'_append_eq_of_le (by decide)]
  exact BitVec.extractLsb'_append_eq_right

theorem packByte0_pol (o : Options) (b0 : Byte) : (packByte0 o b0).extractLsb' 2 1 = o.pol := by
  rw [packByte0_eq_append, BitVec.extractLsb'_append_eq_of_le (by decide),
    BitVec.extractLsb'_append_eq_of_le (by decide)]
  exact BitVec.extractLsb'_append_eq_right

theorem packByte0_rest (o : Options) (b0 : Byte) :
    (packByte0 o b0).extractLsb' 3 5 = b0.extractLsb' 3 5 := by
  rw [packByte0_eq_append, BitVec.extractLsb'_append_eq_of_le (by decide),
    BitVec.extractLsb'_append_eq_of_le (by decide)]
  exact BitVec.extractLsb'_append_eq_left

theorem packByte1_rate (o : Options) (b1 : Byte) : (packByte1 o b1).extractLsb' 6 2 = o.rate := by
  rw [packByte1_eq_append]
  exact BitVec.extractLsb'_append_eq_left

theorem packByte1_rest (o : Options) (b1 : Byte) :
    (packByte1 o b1).extractLsb' 0 6 = b1.extractLsb' 0 6 := by
  rw [packByte1_eq_append]
  exact BitVec.extractLsb'_append_eq_right

/-- Settles O20: each field is read off the packed byte's fields side by side. -/
theorem packingReplacesOnlyTheOptionBits : Obligations.PackingReplacesOnlyTheOptionBits :=
  fun o b0 b1 =>
    ⟨rfl, packByte0_os o b0, packByte0_tm o b0, packByte0_pol o b0, packByte0_rest o b0,
      rfl, packByte1_rate o b1, packByte1_rest o b1⟩

end Sys2Proof.Machine
end

section
/-! PROOFS. The steps of INIT (41_config_packing.md R67, R69, R73, R74): its last step, and the runs in which one of its
two transactions fails. -/

namespace Sys2Proof.Machine

open Sys2Proof

/-- Settles O24: the delay, the commit and the `finish(ok)` of I_POST's step, field by field. -/
theorem initLastStepCommitsTheMirror : Obligations.InitLastStepCommitsTheMirror := by
  intro s hp hi
  rw [step_iPost hp hi]
  congr 1
  ext <;> simp [finishOk, statusOk]

/-- An executor call takes the first scripted answer. -/
theorem answered_cons {s : State} {a : BusAnswer} {as : List BusAnswer} (ha : s.answers = a :: as) (e : Event) :
    answered s e = { s with answers := as, hist := s.hist ++ [e] } := by
  simp [answered, takeAnswer_cons ha]

/-- So does one that fails its count check. -/
theorem endedByMismatch_cons {s : State} {a : BusAnswer} {as : List BusAnswer} (ha : s.answers = a :: as)
    (e : Event) (expected actual : U32) :
    endedByMismatch s e expected actual = { s with
      answers := as, hist := s.hist ++ [e, .done 1], errExpected := expected, errActual := actual
      status := 1, busy := 0, phase := .idle } := by
  simp [endedByMismatch, takeAnswer_cons ha]

/-- R67, R81: the step of a phase that issues a frame is that frame's transaction, whatever it stores. -/
theorem step_phaseFrame {s : State} {f : Frame} (hp : presented s = none) (hf : phaseFrame s = some f) :
    ∃ store, step s = .next (afterPhase s.phase (transact f store (hostAfter s))) := by
  cases hi : s.phase <;> simp only [phaseFrame, hi, Option.some.injEq, reduceCtorEq] at hf <;> subst hf
  case iRd => exact ⟨_, step_iRd hp hi⟩
  case iWr => exact ⟨_, step_iWr hp hi⟩
  case rTrigRd => exact ⟨_, step_rTrigRd hp hi⟩
  case rTrigWr => exact ⟨_, step_rTrigWr hp hi⟩
  case rPoll => exact ⟨_, step_rPoll hp hi⟩
  case rTemp => exact ⟨_, step_rTemp hp hi⟩

/-- R64, R111: the step of a phase whose transaction fails ends the command. -/
theorem step_mismatch {s : State} {f : Frame} (hp : presented s = none) (hf : phaseFrame s = some f)
    (hn : (nextAnswer s).count ≠ expectedCount s.params f) :
    step s = .next
      { endedByMismatch s (frameTxn f (nextAnswer s)) (expectedCount s.params f) (nextAnswer s).count with
        host := (hostAfter s).host, polls := if s.phase = .rPoll then s.polls + 1 else s.polls } := by
  obtain ⟨store, hstep⟩ := step_phaseFrame hp hf
  rw [hstep, mismatch_state rfl hn]

/-- The block in I_RD, after the two steps that accept an INIT with options `o` and wait before its first
transaction. -/
def initReading (o : Options) (rest : List HostAct) (s : State) : State :=
  { s with
    host := rest, lOs := o.os, lPol := o.pol, lRate := o.rate, lTm := o.tm, busy := 1, phase := .iRd
    hist := s.hist ++ [.cmd (initWord o.os o.pol o.rate o.tm), .wait s.params.tInitPreMs] }

/-- The block in I_WR, after the configuration read of that INIT passed with the answer `rd`. -/
def initWriting (o : Options) (rest : List HostAct) (rd : BusAnswer) (as : List BusAnswer) (s : State) : State :=
  { initReading o rest s with
    answers := as, cfgbuf0 := rd.byte0, cfgbuf1 := rd.byte1, phase := .iWr
    hist := (initReading o rest s).hist ++ [cfgReadTxn rd] }

/-- The last step of a run. -/
theorem runSteps_one {s t : State} (h : step s = .next t) : runSteps 1 s = .next t := run_succ h

section WaitingHost

variable {s : State} {o : Options} {rest : List HostAct} {a : BusAnswer} {as : List BusAnswer}

/-- R69: the step of I_RD at the expected count. -/
theorem step_iRd_passes (hb : s.busy = 1) (hw : hostWaits s.host = true) (hi : s.phase = .iRd)
    (ha : s.answers = a :: as) (hn : a.count = s.params.expCfgRead) :
    step s = .next { s with
      answers := as, cfgbuf0 := a.byte0, cfgbuf1 := a.byte1, phase := .iWr, hist := s.hist ++ [cfgReadTxn a] } := by
  obtain ⟨hp, hhost⟩ := waiting_host hb hw
  have hnext := nextAnswer_cons ha
  rw [step_iRd hp hi, hhost, transact_eq_store_answered .cfgRead storeCfg (hnext ▸ hn), hnext, answered_cons ha,
    afterPhase_running (by simp [hi]), countPoll_of_ne (by simp)]
  rfl

/-- R74, R111: a failed transaction of a command, other than a poll, ends it. -/
theorem step_mismatch_waiting {f : Frame} (hb : s.busy = 1) (hw : hostWaits s.host = true)
    (hf : phaseFrame s = some f) (hi : s.phase ≠ .rPoll) (ha : s.answers = a :: as)
    (hn : a.count ≠ expectedCount s.params f) :
    step s = .next { s with
      answers := as, hist := s.hist ++ [frameTxn f a, .done 1]
      errExpected := expectedCount s.params f, errActual := a.count, status := 1, busy := 0, phase := .idle } := by
  obtain ⟨hp, hhost⟩ := waiting_host hb hw
  have hnext := nextAnswer_cons ha
  rw [step_mismatch hp hf (hnext ▸ hn), hhost, hnext, endedByMismatch_cons ha, if_neg hi]

/-- R67: a ready block accepts the INIT word its host issues. -/
theorem step_issued_init (hr : ready s = true) (hh : s.host = .issue (initWord o.os o.pol o.rate o.tm) :: rest) :
    step s = .next (acceptInit o.os o.pol o.rate o.tm { s with host := rest }) := by
  obtain ⟨hp, hhost⟩ := issued_word (ready_iff.1 hr).2 hh
  rw [step_command hp (decodeCommand_initWord _ _ _ _), hhost]
  exact exec_init_ready (s := { s with host := rest }) hr _ _ _ _

/-- R67, R68: an INIT reaches its configuration read in two steps. -/
theorem run_init_to_reading (k : Nat) (hr : ready s = true)
    (hh : s.host = .issue (initWord o.os o.pol o.rate o.tm) :: rest) (hw : hostWaits rest = true) :
    runSteps (k + 2) s = runSteps k (initReading o rest s) := by
  refine (run_succ (step_issued_init hr hh)).trans (run_succ ?_)
  obtain ⟨hp, hhost⟩ :=
    waiting_host (s := acceptInit o.os o.pol o.rate o.tm { s with host := rest }) rfl hw
  rw [step_iPre hp rfl, hhost]
  simp [initReading, acceptInit, record]

/-- R67, R69: an INIT whose configuration read passes reaches its configuration write in three steps. -/
theorem run_init_to_writing (k : Nat) (hr : ready s = true)
    (hh : s.host = .issue (initWord o.os o.pol o.rate o.tm) :: rest) (hw : hostWaits rest = true)
    (ha : s.answers = a :: as) (hn : a.count = s.params.expCfgRead) :
    runSteps (k + 3) s = runSteps k (initWriting o rest a as s) :=
  (run_init_to_reading (k + 1) hr hh hw).trans
    (run_succ (step_iRd_passes (s := initReading o rest s) rfl hw rfl ha hn))

end WaitingHost

/-- Settles O23: the INIT runs up to the transaction that fails, whose step ends it. -/
theorem failedInitEndsAtOnce : Obligations.FailedInitEndsAtOnce := by
  constructor
  · intro s o p r t rest rd as hr hh hw ha hn
    obtain ⟨hphase, hbusy⟩ := ready_iff.1 hr
    have hend := step_mismatch_waiting (s := initReading ⟨o, p, r, t⟩ rest s) (f := .cfgRead) rfl hw rfl nofun ha hn
    refine (run_init_to_reading (o := ⟨o, p, r, t⟩) 1 hr hh hw).trans ((runSteps_one hend).trans ?_)
    simp [initReading, expectedCount, hphase, hbusy]
  · intro s o p r t rest rd wr as hr hh hw ha hrd hwr
    obtain ⟨hphase, hbusy⟩ := ready_iff.1 hr
    have hend := step_mismatch_waiting (s := initWriting ⟨o, p, r, t⟩ rest rd (wr :: as) s)
      (f := .cfgWrite _ _) rfl hw rfl nofun rfl hwr
    refine (run_init_to_writing (o := ⟨o, p, r, t⟩) 1 hr hh hw ha hrd).trans ((runSteps_one hend).trans ?_)
    simp [initWriting, initReading, expectedCount, latched, hphase, hbusy]

end Sys2Proof.Machine
end

section
/-! PROOFS. The steps of READ (42_acquisition.md R83 to R89): what each phase does when nothing is presented, by its
count check, and how long the poll runs (R88). -/

namespace Sys2Proof.Machine

open Sys2Proof

/-- The host's agenda plays no part in an executor call. -/
theorem answered_hostAfter (s : State) (e : Event) :
    answered (hostAfter s) e = { answered s e with host := (hostAfter s).host } := by
  ext <;> simp [answered]

section Phases

variable {s : State}

/-- R64: after a transaction that passed, a phase advances from the bytes it stored. -/
theorem afterPhase_transact_passes (f : Frame) {ph : Phase} {store : BusAnswer → State → State} (hi : s.phase = ph)
    (hph : ph ≠ .idle) (hstore : ∀ a u, (store a u).phase = u.phase)
    (hn : (nextAnswer s).count = expectedCount s.params f) :
    afterPhase ph (transact f store (hostAfter s)) =
      advance ph (countPoll ph (store (nextAnswer s)
        { answered s (frameTxn f (nextAnswer s)) with host := (hostAfter s).host })) := by
  rw [transact_eq_store_answered f store (by simpa using hn), nextAnswer_hostAfter, answered_hostAfter]
  refine afterPhase_running ?_
  rw [hstore]
  exact hi.trans_ne hph

/-- R111: a failed transaction other than a poll ends the command; `POLLS` keeps its value. -/
theorem step_mismatch_of_ne_rPoll {f : Frame} (hp : presented s = none) (hf : phaseFrame s = some f)
    (hi : s.phase ≠ .rPoll) (hn : (nextAnswer s).count ≠ expectedCount s.params f) :
    step s = .next
      { endedByMismatch s (frameTxn f (nextAnswer s)) (expectedCount s.params f) (nextAnswer s).count with
        host := (hostAfter s).host } := by
  rw [step_mismatch hp hf hn, if_neg hi]
  rfl

/-- R83, R85: a gate read that passes fills `CFGBUF`, and the gate bit chooses the path. -/
theorem step_rTrigRd_passes (hp : presented s = none) (hi : s.phase = .rTrigRd)
    (hn : (nextAnswer s).count = s.params.expCfgRead) :
    step s = .next { answered s (cfgReadTxn (nextAnswer s)) with
      host := (hostAfter s).host, cfgbuf0 := (nextAnswer s).byte0, cfgbuf1 := (nextAnswer s).byte1
      phase := if (nextAnswer s).byte0.getLsbD s.params.gateBit.index = true then .rTrigWr else .rTemp } := by
  rw [step_rTrigRd hp hi, afterPhase_transact_passes .cfgRead hi nofun storeCfg_phase hn]
  rfl

/-- R84, R86: a trigger write that passes leads to the delay. -/
theorem step_rTrigWr_passes (hp : presented s = none) (hi : s.phase = .rTrigWr)
    (hn : (nextAnswer s).count = s.params.expCfgWrite) :
    step s = .next { answered s (cfgWriteTxn (triggerByte0 s.cfgbuf0) s.cfgbuf1 (nextAnswer s)) with
      host := (hostAfter s).host, phase := .rTrigDly } := by
  rw [step_rTrigWr hp hi, afterPhase_transact_passes (.cfgWrite _ _) hi nofun (fun _ _ => rfl) hn]
  rfl

/-- R89, R93: a temperature read that passes updates the cache and finishes with OK. -/
theorem step_rTemp_passes (hp : presented s = none) (hi : s.phase = .rTemp)
    (hn : (nextAnswer s).count = s.params.expTempRead) :
    step s = .next (finishOk (updateCache (storeTemp (nextAnswer s)
      { answered s (tempReadTxn (nextAnswer s)) with host := (hostAfter s).host }))) := by
  rw [step_rTemp hp hi, afterPhase_transact_passes .tempRead hi nofun storeTemp_phase hn]
  rfl

/-- R87: a poll read that passes fills `CFGBUF` and is counted, then the poll's tests run. -/
theorem step_rPoll_passes (hp : presented s = none) (hi : s.phase = .rPoll)
    (hn : (nextAnswer s).count = s.params.expCfgRead) :
    step s = .next (pollTest { answered s (cfgReadTxn (nextAnswer s)) with
      host := (hostAfter s).host, cfgbuf0 := (nextAnswer s).byte0, cfgbuf1 := (nextAnswer s).byte1
      polls := s.polls + 1 }) := by
  rw [step_rPoll hp hi, afterPhase_transact_passes .cfgRead hi nofun storeCfg_phase hn]
  rfl

/-- R88: a poll limit is not reached when every limit there is exceeds the count. -/
theorem pollLimitReached_eq_false (hl : ∀ n, s.params.pollLimit = some n → s.polls < n) :
    pollLimitReached s = false := by
  unfold pollLimitReached
  split
  · rfl
  · next n hn => simpa using hl n hn

/-- R88: a poll limit is reached when the count is at least that. -/
theorem pollLimitReached_eq_true {n : Nat} (hl : s.params.pollLimit = some n) (hle : n ≤ s.polls) :
    pollLimitReached s = true := by
  simp [pollLimitReached, hl, hle]

/-- R87: after a poll with `OS = 0` below the limit, the block polls again. -/
theorem pollTest_again (ho : osSet s = false) (hl : pollLimitReached s = false) :
    pollTest s = { s with phase := .rPoll } := by
  simp [pollTest, ho, hl]

/-- R88, R112: after a poll with `OS = 0` at the limit, READ ends with PollTimeout. -/
theorem pollTest_timeout (ho : osSet s = false) (hl : pollLimitReached s = true) :
    pollTest s = raisePollTimeout s := by
  simp [pollTest, ho, hl]

end Phases

/-- Settles O28: the gate bit selects the branch of the step's `if`. -/
theorem gateReadSelectsTriggerOrTemperature : Obligations.GateReadSelectsTriggerOrTemperature := by
  intro s hp hi
  refine ⟨fun hn hgate => ?_, fun hn hgate => ?_, fun hn => ?_⟩
  · rw [step_rTrigRd_passes hp hi hn, if_pos hgate]
  · rw [step_rTrigRd_passes hp hi hn, if_neg (by simp [hgate])]
  · exact step_mismatch_of_ne_rPoll (f := .cfgRead) hp (by simp [phaseFrame, hi]) (by simp [hi]) hn

/-- R84: the trigger byte has the OS bit. -/
theorem triggerByte0_os (b : Byte) : (triggerByte0 b).getLsbD 7 = true := by
  simp [triggerByte0]

/-- R84: the trigger byte keeps every other bit. -/
theorem triggerByte0_rest (b : Byte) : (triggerByte0 b).extractLsb' 0 7 = b.extractLsb' 0 7 := by
  have hmask : (0x80#8).extractLsb' 0 7 = 0#7 := by decide
  rw [triggerByte0, BitVec.extractLsb'_or, hmask, BitVec.or_zero]

/-- Settles O29: the write sends the trigger byte, whose bits are `triggerByte0_os` and `triggerByte0_rest`. -/
theorem triggerSetsOnlyTheOsBitThenWaits : Obligations.TriggerSetsOnlyTheOsBitThenWaits := by
  refine ⟨fun s hp hi => ⟨step_rTrigWr_passes hp hi, fun hn => ?_⟩,
    fun b => ⟨triggerByte0_os b, triggerByte0_rest b⟩, fun s hp hi => ?_⟩
  · exact step_mismatch_of_ne_rPoll (f := .cfgWrite (triggerByte0 s.cfgbuf0) s.cfgbuf1) hp
      (by simp [phaseFrame, hi]) (by simp [hi]) hn
  · rw [step_rTrigDly hp hi, hostAfter_eq]
    rfl

/-- Settles O32: a passing temperature read's `updateCache` and `finishOk`, field by field. -/
theorem temperatureReadUpdatesTheCache : Obligations.TemperatureReadUpdatesTheCache := by
  intro s hp hi
  refine ⟨fun hn => ?_, fun hn => ?_⟩
  · rw [step_rTemp_passes hp hi hn]
    congr 1
    ext <;> simp [answered, finishOk, statusOk]
  · exact step_mismatch_of_ne_rPoll (f := .tempRead) hp (by simp [phaseFrame, hi]) (by simp [hi]) hn

/-- The block after polls whose answers were `polls`, `as` the answers left, the last poll's bytes in `CFGBUF`. -/
def polled (polls as : List BusAnswer) (b0 b1 : Byte) (s : State) : State :=
  { s with
    answers := as, cfgbuf0 := b0, cfgbuf1 := b1, polls := s.polls + polls.length
    hist := s.hist ++ polls.map cfgReadTxn }

/-- Polling no answers changes nothing. -/
theorem polled_nil {s : State} {as : List BusAnswer} (ha : s.answers = as) :
    polled [] as s.cfgbuf0 s.cfgbuf1 s = s := by
  subst ha
  simp [polled]

/-- Polling some answers, then others, is polling them all. -/
theorem polled_polled (ps qs as bs : List BusAnswer) (b0 b1 c0 c1 : Byte) (s : State) :
    polled qs bs c0 c1 (polled ps as b0 b1 s) = polled (ps ++ qs) bs c0 c1 s := by
  simp [polled, Nat.add_assoc]

section Polling

variable {s : State} {a : BusAnswer} {as : List BusAnswer}

/-- R87: a waiting host's poll, whose read passes, tests the state that has it recorded and counted. -/
theorem step_rPoll_waiting (hb : s.busy = 1) (hi : s.phase = .rPoll) (hw : hostWaits s.host = true)
    (ha : s.answers = a :: as) (hn : a.count = s.params.expCfgRead) :
    step s = .next (pollTest (polled [a] as a.byte0 a.byte1 s)) := by
  obtain ⟨hp, hhost⟩ := waiting_host hb hw
  have hnext := nextAnswer_cons ha
  rw [step_rPoll_passes hp hi (hnext ▸ hn), hhost, hnext, answered_cons ha]
  rfl

/-- R88: a poll that reads `OS = 0` below the limit stays in R_POLL. -/
theorem step_poll_again (hb : s.busy = 1) (hi : s.phase = .rPoll) (hw : hostWaits s.host = true)
    (ha : s.answers = a :: as) (hn : notReady s.params a)
    (hl : ∀ n, s.params.pollLimit = some n → s.polls + 1 < n) :
    step s = .next (polled [a] as a.byte0 a.byte1 s) := by
  obtain ⟨hcount, hos⟩ := hn
  rw [step_rPoll_waiting hb hi hw ha hcount,
    pollTest_again (s := polled [a] as a.byte0 a.byte1 s) hos (pollLimitReached_eq_false hl), ← hi]
  rfl

/-- R88, R112: a poll that reads `OS = 0` at the limit ends READ. -/
theorem step_poll_timeout {n : Nat} (hb : s.busy = 1) (hi : s.phase = .rPoll) (hw : hostWaits s.host = true)
    (ha : s.answers = a :: as) (hn : notReady s.params a) (hl : s.params.pollLimit = some n)
    (hle : n ≤ s.polls + 1) :
    step s = .next (raisePollTimeout (polled [a] as a.byte0 a.byte1 s)) := by
  obtain ⟨hcount, hos⟩ := hn
  rw [step_rPoll_waiting hb hi hw ha hcount,
    pollTest_timeout (s := polled [a] as a.byte0 a.byte1 s) hos (pollLimitReached_eq_true hl hle)]

/-- R88: as long as the answers read `OS = 0` and stay below the limit, the run goes on polling. -/
theorem run_polls (k : Nat) {polls : List BusAnswer} (hb : s.busy = 1) (hi : s.phase = .rPoll)
    (hw : hostWaits s.host = true) (ha : s.answers = polls ++ as) (hn : ∀ a ∈ polls, notReady s.params a)
    (hl : ∀ n, s.params.pollLimit = some n → s.polls + polls.length < n) :
    ∃ b0 b1, runSteps (polls.length + k) s = runSteps k (polled polls as b0 b1 s) := by
  induction polls generalizing s with
  | nil => exact ⟨s.cfgbuf0, s.cfgbuf1, by rw [polled_nil (as := as) ha, List.length_nil, Nat.zero_add]⟩
  | cons a polls ih =>
    obtain ⟨hfirst, hrest⟩ := List.forall_mem_cons.1 hn
    have hbound : ∀ n, s.params.pollLimit = some n → s.polls + 1 + polls.length < n := fun n hlim => by
      simpa [Nat.add_assoc, Nat.add_comm 1] using hl n hlim
    have hstep := step_poll_again hb hi hw ha hfirst fun n hlim =>
      Nat.lt_of_le_of_lt (Nat.le_add_right _ _) (hbound n hlim)
    obtain ⟨b0, b1, hrun⟩ := ih (s := polled [a] (polls ++ as) a.byte0 a.byte1 s) hb hi hw rfl hrest hbound
    refine ⟨b0, b1, ?_⟩
    calc runSteps ((a :: polls).length + k) s
        _ = runSteps (polls.length + k + 1) s := by rw [List.length_cons, Nat.add_right_comm]
        _ = runSteps (polls.length + k) (polled [a] (polls ++ as) a.byte0 a.byte1 s) := run_succ hstep
        _ = runSteps k (polled (a :: polls) as b0 b1 s) := by rw [hrun, polled_polled]; rfl

end Polling

/-- Settles O31: without a limit every poll goes on; with a limit N the first N - 1 do and the last times out. -/
theorem pollRunsOnUntilItsLimit : Obligations.PollRunsOnUntilItsLimit := by
  constructor
  · intro s polls as hb hi hw hnone ha hn
    obtain ⟨b0, b1, hrun⟩ := run_polls 0 hb hi hw ha hn (by simp [hnone])
    exact ⟨_, hrun, hi, hb, rfl, rfl, rfl, rfl⟩
  · intro s polls as hb hi hzero hw hlim hpos ha hn
    obtain rfl | ⟨ps, a, rfl⟩ := List.eq_nil_or_concat' polls
    · exact absurd hpos (by decide)
    rw [List.forall_mem_append, List.forall_mem_singleton] at hn
    rw [List.length_append, List.length_singleton] at hlim
    obtain ⟨hfirst, hlast⟩ := hn
    obtain ⟨b0, b1, hrun⟩ := run_polls (as := a :: as) 1 hb hi hw (by simpa using ha) hfirst
      fun n hlim' => by
        obtain rfl : ps.length + 1 = n := Option.some.inj (hlim.symm.trans hlim')
        omega
    have hend := step_poll_timeout (s := polled ps (a :: as) b0 b1 s) hb hi hw rfl hlast hlim
      (by simp [polled])
    refine ⟨a.byte0, a.byte1, ?_⟩
    rw [List.length_append, List.length_singleton, hrun, runSteps_one hend, polled_polled]
    simp [raisePollTimeout, endCommand, record, polled, hzero, statusPollTimeout]

end Sys2Proof.Machine
end

section
/-! PROOFS. Rounding to binary32 (00_scope.md R9) is monotone: a larger rational never gets a smaller value. -/

namespace Sys2Proof.Machine

open Sys2Proof

/-- `scale2` is what its name says, for either sign of the exponent. -/
theorem scale2_eq (m : Nat) (e : Int) : scale2 m e = m * 2 ^ e := by
  obtain ⟨k, rfl | rfl⟩ := e.eq_nat_or_neg
  · simp [scale2]
  · unfold scale2
    split
    · next h =>
      obtain rfl : k = 0 := by omega
      simp
    · simp [Rat.mkRat_eq_div, div_eq_mul_inv]

/-- A power of two whose exponent is `k` more. -/
theorem two_zpow_eq {e f : Int} (k : Nat) (h : e = k + f) : (2 : Rat) ^ e = 2 ^ k * 2 ^ f := by
  rw [h, zpow_add₀ two_ne_zero, zpow_natCast]

/-- The value of a pattern without its sign bit. -/
def magnitudeValue (n : Nat) : Rat :=
  if n / 2 ^ 23 = 0 then scale2 (n % 2 ^ 23) (-149) else scale2 (2 ^ 23 + n % 2 ^ 23) ((n / 2 ^ 23 : Nat) - 150)

theorem getLsbD_31_ofNat {n : Nat} (h : n < 2 ^ 31) : (BitVec.ofNat 32 n).getLsbD 31 = false := by
  rw [BitVec.getLsbD_ofNat, Nat.testBit_lt_two_pow h, Bool.and_false]

/-- A pattern whose sign bit is clear has the value of its magnitude. -/
theorem value32_ofNat {n : Nat} (h : n < 2 ^ 31) : value32 (BitVec.ofNat 32 n) = magnitudeValue n := by
  have hsign := getLsbD_31_ofNat h
  have hex : ((BitVec.ofNat 32 n).extractLsb' 23 8).toNat = n / 2 ^ 23 := by
    rw [BitVec.extractLsb'_toNat, BitVec.toNat_ofNat, Nat.shiftRight_eq_div_pow]
    omega
  have hfr : ((BitVec.ofNat 32 n).extractLsb' 0 23).toNat = n % 2 ^ 23 := by
    rw [BitVec.extractLsb'_toNat, BitVec.toNat_ofNat, Nat.shiftRight_zero]
    omega
  simp only [value32, magnitudeValue, hsign, hex, hfr, Bool.false_eq_true, if_false]

/-- Setting the sign bit negates the value. -/
theorem value32_setSign {x : U32} (h : x.getLsbD 31 = false) : value32 (x ||| 0x80000000#32) = -value32 x := by
  have hex : (0x80000000#32).extractLsb' 23 8 = 0#8 := by decide
  have hfr : (0x80000000#32).extractLsb' 0 23 = 0#23 := by decide
  have hsign : (x ||| 0x80000000#32).getLsbD 31 = true := by
    rw [BitVec.getLsbD_or, h]
    decide
  simp only [value32, BitVec.extractLsb'_or, hex, hfr, hsign, h, BitVec.or_zero, if_true, Bool.false_eq_true, if_false]

theorem magnitudeValue_nonneg (n : Nat) : 0 ≤ magnitudeValue n := by
  unfold magnitudeValue
  split <;>
  · rw [scale2_eq]
    positivity

/-- The next pattern up has the larger value, a carry out of the significand included. -/
theorem magnitudeValue_mono : Monotone magnitudeValue := by
  refine monotone_nat_of_le_succ fun n => ?_
  by_cases hcarry : n % 2 ^ 23 + 1 < 2 ^ 23
  · have hex : (n + 1) / 2 ^ 23 = n / 2 ^ 23 := by omega
    have hfr : (n + 1) % 2 ^ 23 = n % 2 ^ 23 + 1 := by omega
    simp only [magnitudeValue, scale2_eq, hex, hfr]
    split <;> gcongr <;> omega
  · have hex : (n + 1) / 2 ^ 23 = n / 2 ^ 23 + 1 := by omega
    have hfr : (n + 1) % 2 ^ 23 = 0 := by omega
    have hfull : n % 2 ^ 23 = 2 ^ 23 - 1 := by omega
    simp only [magnitudeValue, scale2_eq, hex, hfr, hfull, if_neg (Nat.succ_ne_zero _)]
    by_cases hsub : n / 2 ^ 23 = 0
    · rw [hsub, if_pos rfl]
      norm_num
    · have hquantum : ((n / 2 ^ 23 + 1 : Nat) - 150 : Int) = (1 : Nat) + ((n / 2 ^ 23 : Nat) - 150) := by omega
      rw [if_neg hsub, two_zpow_eq 1 hquantum, ← mul_assoc]
      gcongr
      norm_num

/-- `roundHalfEven` is a nearest natural number, in a tie an even one. -/
theorem roundHalfEven_spec (n : Nat) {d : Nat} (hd : 0 < d) :
    |(n : Rat) / d - roundHalfEven n d| ≤ 1 / 2 ∧
    (|(n : Rat) / d - roundHalfEven n d| = 1 / 2 → roundHalfEven n d % 2 = 0) := by
  have hdpos : (0 : Rat) < d := by exact_mod_cast hd
  have hratio : (n : Rat) / d = (n / d : Nat) + (n % d : Nat) / d := by
    rw [div_eq_iff hdpos.ne', add_mul, div_mul_cancel₀ _ hdpos.ne']
    exact_mod_cast (Nat.div_add_mod' n d).symm
  have hlow : (0 : Rat) ≤ (n % d : Nat) / d := by positivity
  have hhigh : ((n % d : Nat) : Rat) / d < 1 := (div_lt_one hdpos).2 (by exact_mod_cast Nat.mod_lt n hd)
  have hdown_iff : 2 * (n % d) < d ↔ ((n % d : Nat) : Rat) / d < 1 / 2 := by
    rw [div_lt_div_iff₀ hdpos two_pos, one_mul, mul_comm]
    exact_mod_cast Iff.rfl
  have hup_iff : d < 2 * (n % d) ↔ 1 / 2 < ((n % d : Nat) : Rat) / d := by
    rw [div_lt_div_iff₀ two_pos hdpos, one_mul, mul_comm]
    exact_mod_cast Iff.rfl
  rw [hratio]
  generalize ((n % d : Nat) : Rat) / d = f at hlow hhigh hdown_iff hup_iff
  simp only [roundHalfEven, hdown_iff, hup_iff]
  split_ifs with hdown hup heven
  · rw [add_sub_cancel_left, abs_of_nonneg hlow]
    exact ⟨hdown.le, fun htie => absurd htie hdown.ne⟩
  · rw [Nat.cast_add_one, add_sub_add_left_eq_sub, abs_of_neg (by linarith)]
    exact ⟨by linarith, fun htie => absurd htie (by linarith)⟩
  · rw [add_sub_cancel_left, abs_of_nonneg hlow]
    exact ⟨not_lt.1 hup, fun _ => heven⟩
  · rw [Nat.cast_add_one, add_sub_add_left_eq_sub, abs_of_neg (by linarith)]
    exact ⟨by linarith, fun _ => by omega⟩

/-- Rounding half to even is monotone: two roundings in the wrong order would be one tie, rounded to two neighbours,
both even. -/
theorem roundHalfEven_mono {n d n' d' : Nat} (hd : 0 < d) (hd' : 0 < d') (h : (n : Rat) / d ≤ n' / d') :
    roundHalfEven n d ≤ roundHalfEven n' d' := by
  obtain ⟨hnear, htie⟩ := roundHalfEven_spec n hd
  obtain ⟨hnear', htie'⟩ := roundHalfEven_spec n' hd'
  generalize roundHalfEven n d = r at hnear htie ⊢
  generalize roundHalfEven n' d' = r' at hnear' htie' ⊢
  by_contra! hlt
  have hlow := (abs_le.1 hnear).1
  have hhigh := (abs_le.1 hnear').2
  have hnext : (r : Rat) ≤ r' + 1 := by linarith
  obtain rfl : r = r' + 1 := le_antisymm (by exact_mod_cast hnext) hlt
  push_cast at hlow htie
  have heven : (r' + 1) % 2 = 0 := htie (by rw [abs_of_nonpos] <;> linarith)
  have heven' : r' % 2 = 0 := htie' (by rw [abs_of_nonneg] <;> linarith)
  omega

theorem roundHalfEven_one (n : Nat) : roundHalfEven n 1 = n := by
  simp [roundHalfEven, Nat.mod_one]

/-- The model's way to write a ratio over a power of two. -/
theorem shifted_ratio (n d : Nat) (e : Int) :
    ((n * 2 ^ (-e).toNat : Nat) : Rat) / (d * 2 ^ e.toNat : Nat) = n / d / 2 ^ e := by
  obtain ⟨k, rfl | rfl⟩ := e.eq_nat_or_neg
  · simp [div_div]
  · simp [div_mul_eq_mul_div]

/-- The binary logarithm brackets a positive number. -/
theorem zpow_log2_bounds {n : Nat} (hn : 0 < n) :
    (2 : Rat) ^ (n.log2 : Int) ≤ n ∧ (n : Rat) < 2 ^ (n.log2 + 1 : Int) :=
  ⟨by exact_mod_cast Nat.log2_self_le hn.ne', by exact_mod_cast Nat.lt_log2_self⟩

/-- `floorLog2` is the integer logarithm of the ratio. -/
theorem floorLog2_eq_log {n d : Nat} (hn : 0 < n) (hd : 0 < d) : floorLog2 n d = Int.log 2 ((n : Rat) / d) := by
  have hpos : (0 : Rat) < n / d := by positivity
  have hdpos : (0 : Rat) < d := by exact_mod_cast hd
  obtain ⟨hnlow, hnhigh⟩ := zpow_log2_bounds hn
  obtain ⟨hdlow, hdhigh⟩ := zpow_log2_bounds hd
  have htest (e : Int) : d * 2 ^ e.toNat ≤ n * 2 ^ (-e).toNat ↔ e ≤ Int.log 2 ((n : Rat) / d) := by
    have hden : (0 : Rat) < (d * 2 ^ e.toNat : Nat) := by positivity
    rw [← Int.zpow_le_iff_le_log one_lt_two hpos, Nat.cast_two, ← one_le_div (zpow_pos (two_pos (α := Rat)) e),
      ← shifted_ratio, one_le_div hden, Nat.cast_le]
  have hlow : (n.log2 : Int) - (d.log2 + 1) ≤ Int.log 2 ((n : Rat) / d) := by
    rw [← Int.zpow_le_iff_le_log one_lt_two hpos, Nat.cast_two, zpow_sub₀ two_ne_zero]
    gcongr
  have hhigh : Int.log 2 ((n : Rat) / d) < (n.log2 + 1 : Int) - d.log2 := by
    rw [← Int.lt_zpow_iff_log_lt one_lt_two hpos, Nat.cast_two, zpow_sub₀ two_ne_zero]
    gcongr
  simp only [floorLog2, htest]
  split <;> omega

/-- The exponent of the binade a ratio is rounded in, never below that of the smallest normal number. -/
def binade (q : Rat) : Int := max (Int.log 2 q) (-126)

theorem binade_mono {p q : Rat} (hp : 0 < p) (h : p ≤ q) : binade p ≤ binade q :=
  max_le_max_right _ (Int.log_mono_right hp h)

/-- A ratio is below the next binade. -/
theorem lt_zpow_binade_add_one (q : Rat) : q < 2 ^ (binade q + 1) :=
  (Int.lt_zpow_succ_log_self one_lt_two q).trans_le
    (zpow_le_zpow_right₀ one_le_two (add_le_add_left (le_max_left _ _) 1))

/-- Above the lowest binade a ratio is in its own. -/
theorem zpow_binade_le {q : Rat} (hq : 0 < q) (h : -126 < binade q) : 2 ^ binade q ≤ q := by
  have hlog : binade q = Int.log 2 q := max_eq_left (by unfold binade at h; omega)
  rw [hlog]
  exact Int.zpow_log_le_self one_lt_two hq

/-- The significand a ratio is rounded to in the binade of exponent `e`. -/
def significand (n d : Nat) (e : Int) : Nat := roundHalfEven (n * 2 ^ (-(e - 23)).toNat) (d * 2 ^ (e - 23).toNat)

theorem magnitude32_eq {n d : Nat} (hn : 0 < n) (hd : 0 < d) :
    magnitude32 n d = min ((binade (n / d) + 126).toNat * 2 ^ 23 + significand n d (binade (n / d))) 0x7F800000 := by
  unfold magnitude32
  rw [floorLog2_eq_log hn hd]
  rfl

section Significand

variable {n d n' d' : Nat} {e : Int}

theorem significand_mono (hd : 0 < d) (hd' : 0 < d') (h : (n : Rat) / d ≤ n' / d') :
    significand n d e ≤ significand n' d' e := by
  refine roundHalfEven_mono (by positivity) (by positivity) ?_
  rw [shifted_ratio, shifted_ratio]
  gcongr

/-- A significand is at most the smallest one of the next binade. -/
theorem significand_le (hd : 0 < d) (h : (n : Rat) / d < 2 ^ (e + 1)) : significand n d e ≤ 2 ^ 24 := by
  refine (roundHalfEven_mono (by positivity) one_pos ?_).trans_eq (roundHalfEven_one _)
  rw [shifted_ratio, Nat.cast_one, div_one, div_le_iff₀ (by positivity)]
  exact_mod_cast (h.trans_eq (two_zpow_eq 24 (by omega : e + 1 = (24 : Nat) + (e - 23)))).le

/-- A significand of a ratio in its own binade has its top bit. -/
theorem le_significand (hd : 0 < d) (h : 2 ^ e ≤ (n : Rat) / d) : 2 ^ 23 ≤ significand n d e := by
  refine (roundHalfEven_one _).symm.trans_le (roundHalfEven_mono one_pos (by positivity) ?_)
  rw [shifted_ratio, Nat.cast_one, div_one, le_div_iff₀ (by positivity)]
  exact_mod_cast (two_zpow_eq 23 (by omega : e = (23 : Nat) + (e - 23))).symm.trans_le h

/-- A larger ratio has a magnitude at least as large: in one binade by the rounding's monotonicity, in two by their
common border. -/
theorem magnitude32_mono (hn : 0 < n) (hd : 0 < d) (hn' : 0 < n') (hd' : 0 < d') (h : (n : Rat) / d ≤ n' / d') :
    magnitude32 n d ≤ magnitude32 n' d' := by
  rw [magnitude32_eq hn hd, magnitude32_eq hn' hd']
  refine min_le_min_right _ ?_
  have hmin : -126 ≤ binade ((n : Rat) / d) := le_max_right _ _
  obtain heq | hlt := (binade_mono (by positivity) h).eq_or_lt
  · rw [heq]
    exact Nat.add_le_add_left (significand_mono hd hd' h) _
  · have htop := significand_le hd (lt_zpow_binade_add_one ((n : Rat) / d))
    have hbottom := le_significand hd' (zpow_binade_le (by positivity) (hmin.trans_lt hlt))
    omega

end Significand

/-- The magnitude never reaches the sign bit. -/
theorem magnitude32_lt (n d : Nat) : magnitude32 n d < 2 ^ 31 :=
  (min_le_right _ _).trans_lt (by decide)

/-- A positive rational is the ratio the model rounds. -/
theorem natAbs_div_den {q : Rat} (h : 0 < q) : (q.num.natAbs : Rat) / q.den = q := by
  rw [Nat.cast_natAbs, abs_of_pos (Rat.num_pos.2 h), Rat.num_div_den]

theorem value32_rnd32_of_pos {q : Rat} (h : 0 < q) :
    value32 (rnd32 q) = magnitudeValue (magnitude32 q.num.natAbs q.den) := by
  rw [rnd32, if_neg h.ne', if_neg h.not_gt, value32_ofNat (magnitude32_lt _ _)]

/-- The sign is not rounded. -/
theorem value32_rnd32_neg (q : Rat) : value32 (rnd32 (-q)) = -value32 (rnd32 q) := by
  have hpos {q : Rat} (h : 0 < q) : value32 (rnd32 (-q)) = -value32 (rnd32 q) := by
    rw [rnd32, if_neg (neg_ne_zero.2 h.ne'), if_pos (neg_lt_zero.2 h), rnd32, if_neg h.ne', if_neg h.not_gt,
      Rat.num_neg_eq_neg_num, Int.natAbs_neg, Rat.neg_den, value32_setSign (getLsbD_31_ofNat (magnitude32_lt _ _))]
  obtain hneg | rfl | h := lt_trichotomy q 0
  · rw [← neg_eq_iff_eq_neg, ← hpos (neg_pos.2 hneg), neg_neg]
  · decide
  · exact hpos h

/-- Rounding is monotone. -/
theorem value32_rnd32_mono : Monotone fun q => value32 (rnd32 q) := by
  refine monotone_of_odd_of_monotoneOn_nonneg value32_rnd32_neg fun p hp q _ h => ?_
  obtain rfl | hpos := (Set.mem_Ici.1 hp).eq_or_lt
  · obtain rfl | hqpos := h.eq_or_lt
    · exact le_rfl
    · exact (magnitudeValue_nonneg _).trans_eq (value32_rnd32_of_pos hqpos).symm
  · have hqpos := hpos.trans_le h
    simp only [value32_rnd32_of_pos hpos, value32_rnd32_of_pos hqpos]
    refine magnitudeValue_mono (magnitude32_mono (by simp [hpos.ne']) p.den_pos (by simp [hqpos.ne']) q.den_pos ?_)
    rwa [natAbs_div_den hpos, natAbs_div_den hqpos]

end Sys2Proof.Machine
end

section
/-! PROOFS. The unit accessors (43_unit_accessors.md R101 to R104): the values at the codes the rules name, and the
range between the extreme codes, since every operation of the formulas rounds monotonically. -/

namespace Sys2Proof.Machine

open Sys2Proof

section Monotone

variable {a b k : U32} {c d : Code}

theorem value32_mul32_mono (hk : 0 ≤ value32 k) (h : value32 a ≤ value32 b) :
    value32 (mul32 a k) ≤ value32 (mul32 b k) :=
  value32_rnd32_mono (mul_le_mul_of_nonneg_right h hk)

theorem value32_div32_mono (hk : 0 ≤ value32 k) (h : value32 a ≤ value32 b) :
    value32 (div32 a k) ≤ value32 (div32 b k) :=
  value32_rnd32_mono (div_le_div_of_nonneg_right h hk)

theorem value32_add32_mono (h : value32 a ≤ value32 b) : value32 (add32 a k) ≤ value32 (add32 b k) :=
  value32_rnd32_mono (add_le_add_left h _)

theorem value32_celsius32_mono (h : c.toInt ≤ d.toInt) : value32 (celsius32 c) ≤ value32 (celsius32 d) :=
  value32_rnd32_mono (div_le_div_of_nonneg_right (Int.cast_le.2 h) (by decide))

theorem value32_fahrenheit32_mono (h : c.toInt ≤ d.toInt) :
    value32 (fahrenheit32 .leftToRight c) ≤ value32 (fahrenheit32 .leftToRight d) :=
  value32_add32_mono (value32_div32_mono (by decide) (value32_mul32_mono (by decide) (value32_celsius32_mono h)))

theorem value32_kelvin32_mono (h : c.toInt ≤ d.toInt) :
    value32 (kelvin32 .leftToRight c) ≤ value32 (kelvin32 .leftToRight d) :=
  value32_add32_mono (value32_celsius32_mono h)

end Monotone

/-- R20: the least code is 0x800. -/
theorem minCode_le (c : Code) : (0x800 : Code).toInt ≤ c.toInt := BitVec.le_toInt c

/-- R20: the greatest code is 0x7FF. -/
theorem le_maxCode (c : Code) : c.toInt ≤ (0x7FF : Code).toInt := Int.le_of_lt_add_one BitVec.toInt_lt

/-- R102: Fahrenheit at the extreme codes. -/
theorem fahrenheit32_extremes :
    fahrenheit32 .leftToRight 0x800 = 0xC3466666 ∧ fahrenheit32 .leftToRight 0x7FF = 0x438324CD := by decide +kernel

/-- R103: Kelvin at the extreme codes. -/
theorem kelvin32_extremes :
    kelvin32 .leftToRight 0x800 = 0x43112666 ∧ kelvin32 .leftToRight 0x7FF = 0x43C88B33 := by decide +kernel

/-- R102: the results of GET_F lie between those of the extreme codes. -/
theorem fahrenheit32_range (c : Code) :
    value32 0xC3466666 ≤ value32 (fahrenheit32 .leftToRight c) ∧
    value32 (fahrenheit32 .leftToRight c) ≤ value32 0x438324CD := by
  obtain ⟨hmin, hmax⟩ := fahrenheit32_extremes
  rw [← hmin, ← hmax]
  exact ⟨value32_fahrenheit32_mono (minCode_le c), value32_fahrenheit32_mono (le_maxCode c)⟩

/-- R103: the results of GET_K lie between those of the extreme codes. -/
theorem kelvin32_range (c : Code) :
    value32 0x43112666 ≤ value32 (kelvin32 .leftToRight c) ∧
    value32 (kelvin32 .leftToRight c) ≤ value32 0x43C88B33 := by
  obtain ⟨hmin, hmax⟩ := kelvin32_extremes
  rw [← hmin, ← hmax]
  exact ⟨value32_kelvin32_mono (minCode_le c), value32_kelvin32_mono (le_maxCode c)⟩

/-- R101: no code's Celsius value is -0.0: a code below 0 is at most -0.0625, code 0 is +0.0, and a code above 0 is at
least 0.0625. -/
theorem celsius32_ne_negZero (c : Code) : celsius32 c ≠ 0x80000000 := by
  intro hc
  have hzero : value32 (celsius32 c) = 0 := by
    rw [hc]
    decide
  obtain hneg | hcode | hpos := lt_trichotomy c.toInt 0
  · have hle := value32_celsius32_mono (d := 0xFFF) (Int.le_sub_one_of_lt hneg)
    rw [hzero] at hle
    exact absurd hle (by decide +kernel)
  · obtain rfl : c = 0 := BitVec.eq_of_toInt_eq hcode
    exact absurd hc (by decide +kernel)
  · have hle := value32_celsius32_mono (c := 0x001) (Int.add_one_le_of_lt hpos)
    rw [hzero] at hle
    exact absurd hle (by decide +kernel)

section Ready

variable {s : State} (hr : ready s = true)
include hr

/-- R101: a ready block accepts GET_C. -/
theorem exec_getC_ready : exec .getC s = .next (accessor 0x60 (celsius32 s.tcode) s) :=
  congrArg Host.Outcome.next (whenReady_ready hr)

/-- R102: a ready block accepts GET_F. -/
theorem exec_getF_ready :
    exec .getF s = .next (accessor 0x61 (fahrenheit32 s.params.accessorArith s.tcode) s) :=
  congrArg Host.Outcome.next (whenReady_ready hr)

/-- R103: a ready block accepts GET_K. -/
theorem exec_getK_ready :
    exec .getK s = .next (accessor 0x62 (kelvin32 s.params.accessorArith s.tcode) s) :=
  congrArg Host.Outcome.next (whenReady_ready hr)

/-- R104: a ready block accepts GET_R. -/
theorem exec_getR_ready :
    exec .getR s = .next (accessor 0x63 (rankine32 s.params.accessorArith s.tcode) s) :=
  congrArg Host.Outcome.next (whenReady_ready hr)

end Ready

/-- R100: the constants of the formulas are the rounded 9, 5 and 32. -/
theorem rnd32_constants : rnd32 9 = c9 ∧ rnd32 5 = c5 ∧ rnd32 32 = c32 := by decide +kernel

/-- R102: the formula of the default arithmetic, read left to right. -/
theorem fahrenheit32_leftToRight (c : Code) : fahrenheit32 .leftToRight c =
    add32 (div32 (mul32 (rnd32 (celsius c)) (rnd32 9)) (rnd32 5)) (rnd32 32) := by
  obtain ⟨h9, h5, h32⟩ := rnd32_constants
  rw [h9, h5, h32]
  rfl

/-- R104: the formula of the default arithmetic, from the rounded Kelvin value. -/
theorem rankine32_leftToRight (c : Code) : rankine32 .leftToRight c =
    div32 (mul32 (add32 (rnd32 (celsius c)) 0x43889333) (rnd32 9)) (rnd32 5) := by
  obtain ⟨h9, h5, -⟩ := rnd32_constants
  rw [h9, h5]
  rfl

/-- R102: the five results the rule gives. -/
theorem fahrenheit32_examples :
    fahrenheit32 .leftToRight 0x000 = 0x42000000 ∧ fahrenheit32 .leftToRight 0x640 = 0x43540000 ∧
    fahrenheit32 .leftToRight 0xD80 = 0xC2200000 ∧ fahrenheit32 .leftToRight 0xF00 = 0x404CCCD0 ∧
    fahrenheit32 .leftToRight 0x190 = 0x429A0000 := by decide +kernel

/-- Settles O40: a ready block's accessor step, and the sign of the Celsius value of each code. -/
theorem getCWritesTheCelsiusValue : Obligations.GetCWritesTheCelsiusValue :=
  ⟨fun _ hr => exec_getC_ready hr, celsius32_ne_negZero, by decide +kernel, by decide +kernel⟩

/-- Settles O41: a ready block's accessor step, and the range by monotonicity. -/
theorem getFWritesTheFahrenheitValue : Obligations.GetFWritesTheFahrenheitValue := by
  refine ⟨fun s hr => ⟨fun ha => ?_, fun ha => ?_⟩, fahrenheit32_range, fahrenheit32_examples⟩
  · rw [exec_getF_ready hr, ha, fahrenheit32_leftToRight]
    rfl
  · rw [exec_getF_ready hr, ha]
    rfl

/-- Settles O42: a ready block's accessor step, and the range by monotonicity. -/
theorem getKWritesTheKelvinValue : Obligations.GetKWritesTheKelvinValue := by
  refine ⟨fun s hr => ⟨fun ha => ?_, fun ha => ?_⟩, kelvin32_range, by decide +kernel, by decide +kernel⟩
  · rw [exec_getK_ready hr, ha]
    rfl
  · rw [exec_getK_ready hr, ha]
    rfl

/-- Settles O43: a ready block's accessor step. -/
theorem getRWritesTheRankineValue : Obligations.GetRWritesTheRankineValue := by
  refine ⟨fun s hr => ⟨fun ha => ?_, fun ha => ?_⟩, by decide +kernel, by decide +kernel⟩
  · rw [exec_getR_ready hr, ha, rankine32_leftToRight]
    rfl
  · rw [exec_getR_ready hr, ha]
    rfl

end Sys2Proof.Machine
end

section
/-! PROOFS. What the block refuses (60_exceptions.md R116, R117): a reserved word, and any word while a command runs. -/

namespace Sys2Proof.Machine

open Sys2Proof

/-- R116, R117: a refusal writes `REFUSED` and the host's agenda, nothing else. -/
theorem refuse_hostAfter (s : State) :
    refuse (hostAfter s) = { s with host := (hostAfter s).host, refused := 1 } :=
  congrArg refuse (hostAfter_eq s)

/-- R117: while `BUSY = 1` no command is carried out. -/
theorem exec_command_busy {i : Instr} {s : State} (hf : i.format = .commandWord) (hb : s.busy = 1) :
    exec i s = .next (refuse s) := by
  obtain ⟨t, ht⟩ := exec_answers i s
  obtain ⟨-, rfl⟩ | ⟨hr, -⟩ := exec_command_cases hf ht
  · exact ht
  · simp [(ready_iff.mp hr).2] at hb

/-- R117: while `BUSY = 1` a presented word is refused, whether it decodes or not. -/
theorem step_presented_busy {s : State} {w : Byte} (hp : presented s = some w) (hb : s.busy = 1) :
    step s = .next (refuse (hostAfter s)) := by
  cases hd : decodeCommand w with
  | ok i => rw [step_command hp hd, exec_command_busy (decodeCommand_ok hd).1 (by simpa using hb)]
  | error e => exact step_reserved hp hd

/-- Settles O10: the refusal of a step at a reserved word, of which the host's agenda is the only other change. -/
theorem reservedWordIsRefused : Obligations.ReservedWordIsRefused := by
  intro s w hp hw
  cases hd : decodeCommand w with
  | ok i => simp [hd, Except.isOk, Except.toBool] at hw
  | error e => exact (step_reserved hp hd).trans (congrArg Host.Outcome.next (refuse_hostAfter s))

/-- Settles O11: a block with `BUSY = 1` is not ready, so every command is refused, and every word with it. -/
theorem wordWhileBusyIsRefused : Obligations.WordWhileBusyIsRefused := by
  refine ⟨fun s i hf hb => exec_command_busy hf hb, fun s w rest hb hh => ?_⟩
  obtain ⟨hp, hhost⟩ := forced_word hh
  rw [step_presented_busy hp hb, hhost]
  rfl

end Sys2Proof.Machine
end

section
/-! PROOFS. What construction leaves in the elements (70_reset_and_hazards.md R125). -/

namespace Sys2Proof.Machine

open Sys2Proof

/-- R12: construction takes `ADDR7` from the address table, by the address option among its arguments. -/
theorem construct_addr7 {p : Config.Params} {a : AddrSel} (h : p.addrSel = a) :
    (State.construct p).addr7 = addr7Of a :=
  congrArg addr7Of h

/-- Settles O60: `ADDR7` by the row of the address table for each option; every other element is the field construction
writes. -/
theorem constructionLeavesTheResetValues : Obligations.ConstructionLeavesTheResetValues := by
  intro p
  refine ⟨rfl, rfl, rfl, construct_addr7, construct_addr7, construct_addr7, construct_addr7, ?_⟩
  and_intros <;> rfl

end Sys2Proof.Machine
end

section
/-! PROOFS. The encodings (30_encoding.md R47, R50 to R57): decoding inverts encoding, the reserved words, the table's
numbering, the option codes, the pseudo-instructions and the assembler. -/

namespace Sys2Proof

open Sys2Proof.Machine

/-- R50, R51, R63: the round trip of every row of the table. -/
theorem roundTrip_statement (i : Instr) : Laws.RoundTrip.Statement i := by
  cases i with
  | init o p r t => exact Laws.RoundTrip.init o p r t
  | read => exact Laws.RoundTrip.read
  | getC => exact Laws.RoundTrip.getC
  | getF => exact Laws.RoundTrip.getF
  | getK => exact Laws.RoundTrip.getK
  | getR => exact Laws.RoundTrip.getR
  | cfgRead => exact Laws.RoundTrip.cfgRead
  | cfgWrite d0 d1 => exact Laws.RoundTrip.cfgWrite d0 d1
  | tempRead => exact Laws.RoundTrip.tempRead
  | delay ms => exact Laws.RoundTrip.delay ms

/-- An instruction that has bytes is what its bytes decode to. -/
theorem decode_encode {i : Instr} (hi : i.format ≠ .delayEvent) : decode i.format (encode i) = .ok i := by
  have hstatement := roundTrip_statement i
  rwa [Laws.RoundTrip.Statement, if_neg hi] at hstatement

/-- Bytes that decode are those of an instruction of the format asked for: one byte by the table of command words, a
frame by the table of frames. -/
theorem encode_of_decode {f : Format} {w : List Byte} {i : Instr} (h : decode f w = .ok i) :
    i.format = f ∧ encode i = w := by
  unfold decode at h
  split at h
  · exact decodeCommand_ok h
  · exact decodeFrame_ok h
  · exact nomatch h

/-- Settles O4: each direction is a lemma about the decoder of every format. -/
theorem decodeAndEncodeAgree : Obligations.DecodeAndEncodeAgree :=
  ⟨fun _ hi => decode_encode hi, fun _ _ _ h => encode_of_decode h⟩

/-- Settles O1: each word and frame is evaluated. -/
theorem wordsDecodeAsTheVectorsSay : Obligations.WordsDecodeAsTheVectorsSay := by
  unfold Obligations.WordsDecodeAsTheVectorsSay
  decide +kernel

/-- Settles O3: the table's 256 words are evaluated one by one. -/
theorem reservedWordsAreThoseNoRowMatches : Obligations.ReservedWordsAreThoseNoRowMatches := by
  unfold Obligations.ReservedWordsAreThoseNoRowMatches
  decide +kernel

/-- R57: the two words of INIT_DEFAULTS, the polarity at bit 3. -/
theorem initWord_defaults (pol : Bit) :
    initWord 0 pol 2 0 = 0x24#8 ||| (pol.setWidth 8 <<< 3) ∧
    initWord 1 pol 2 0 = 0x34#8 ||| (pol.setWidth 8 <<< 3) := by
  revert pol
  decide

/-- Settles O6: the codes and expansions are definitions; the encodings are `initWord_defaults`. -/
theorem optionCodesAndPseudoExpansions : Obligations.OptionCodesAndPseudoExpansions := by
  refine ⟨by decide, fun p => ⟨rfl, rfl, rfl, rfl, fun _ => rfl, ?_, ?_⟩⟩
  · obtain ⟨h0, -⟩ := initWord_defaults p.defaultAlertPolarity
    rw [← h0]
    rfl
  · obtain ⟨-, h1⟩ := initWord_defaults p.defaultAlertPolarity
    rw [← h1]
    rfl

/-- R56: the list of commands has every instruction of the command format. -/
theorem mem_allCommands {i : Instr} (hi : i.format = .commandWord) : i ∈ allCommands := by
  have hinit : ∀ (o p : Bit) (r : BitVec 2) (t : Bit), Instr.init o p r t ∈ allCommands := by decide +kernel
  cases i with
  | init o p r t => exact hinit o p r t
  | read | getC | getF | getK | getR => simp [allCommands]
  | cfgRead | cfgWrite | tempRead | delay => exact nomatch hi

/-- R56: no two of the 37 commands share a line. -/
theorem assemble_allCommands :
    ∀ i ∈ allCommands, assemble (asm i) = some i ∧ assemble (asmNumeric i) = some i := by
  decide +kernel

/-- Settles O7: every command is in the assembler's list, whose lines are evaluated. -/
theorem assemblerReadsEveryCommand : Obligations.AssemblerReadsEveryCommand :=
  ⟨fun i hi => assemble_allCommands i (mem_allCommands hi), by decide +kernel, by decide +kernel⟩

/-- The table's numbering loses no byte. -/
theorem tableBytes_wordOfBytes (bs : List Byte) : tableBytes bs.length (wordOfBytes bs) = bs := by
  induction bs with
  | nil => rfl
  | cons b bs ih =>
    have hlow : BitVec.ofNat 8 (b.toNat + 256 * wordOfBytes bs) = b := by
      apply BitVec.eq_of_toNat_eq
      rw [BitVec.toNat_ofNat]
      have := b.isLt
      omega
    have hhigh : (b.toNat + 256 * wordOfBytes bs) / 256 = wordOfBytes bs := by
      have := b.isLt
      omega
    simp only [List.length_cons, tableBytes, wordOfBytes, hlow, hhigh, ih]

/-- The bytes of a command are its one word, which decodes to it. -/
theorem encode_commandWord {i : Instr} (hi : i.format = .commandWord) :
    ∃ c, encode i = [c] ∧ decodeCommand c = .ok i := by
  have hdecode : decode .commandWord (encode i) = .ok i := hi ▸ decode_encode (by simp [hi])
  cases i with
  | init | read | getC | getF | getK | getR => exact ⟨_, rfl, hdecode⟩
  | cfgRead | cfgWrite | tempRead | delay => exact nomatch hi

/-- Log 7: eight bits are a command word first. -/
theorem decodeTableWord_command {c : Byte} {i : Instr} (h : decodeCommand c = .ok i) :
    decodeTableWord 8 (wordOfBytes [c]) = some i := by
  have hbytes : tableBytes 1 (wordOfBytes [c]) = [c] := tableBytes_wordOfBytes [c]
  simp [decodeTableWord, hbytes, decode, h]

/-- Log 7: eight bits that are no command word are a frame. -/
theorem decodeTableWord_byteFrame {c : Byte} {e : DecodeError} {i : Instr} (hc : decodeCommand c = .error e)
    (hf : decode .busFrame [c] = .ok i) : decodeTableWord 8 (wordOfBytes [c]) = some i := by
  have hbytes : tableBytes 1 (wordOfBytes [c]) = [c] := tableBytes_wordOfBytes [c]
  have hcommand : decode .commandWord [c] = .error e := hc
  simp [decodeTableWord, hbytes, hcommand, hf, Except.toOption]

/-- Log 7: 24 bits are a frame. -/
theorem decodeTableWord_longFrame {b0 b1 b2 : Byte} {i : Instr} (hf : decode .busFrame [b0, b1, b2] = .ok i) :
    decodeTableWord 24 (wordOfBytes [b0, b1, b2]) = some i := by
  have hbytes : tableBytes 3 (wordOfBytes [b0, b1, b2]) = [b0, b1, b2] := tableBytes_wordOfBytes [b0, b1, b2]
  simp [decodeTableWord, hbytes, hf, Except.toOption]

/-- The number of an instruction's bytes is read as that instruction. -/
theorem decodeTableWord_encode {i : Instr} (hi : i.format ≠ .delayEvent) :
    decodeTableWord (8 * (encode i).length) (wordOfBytes (encode i)) = some i := by
  cases hf : i.format with
  | commandWord =>
    obtain ⟨c, hc, hdecode⟩ := encode_commandWord hf
    rw [hc]
    exact decodeTableWord_command hdecode
  | busFrame =>
    have hframe : decode .busFrame (encode i) = .ok i := hf ▸ decode_encode hi
    cases i with
    | cfgRead => exact decodeTableWord_byteFrame (e := .reservedMajor 0x01) (by decide) hframe
    | tempRead => exact decodeTableWord_byteFrame (e := .reservedMajor 0x00) (by decide) hframe
    | cfgWrite d0 d1 => exact decodeTableWord_longFrame hframe
    | init | read | getC | getF | getK | getR | delay => exact nomatch hf
  | delayEvent => exact absurd hf hi

end Sys2Proof

namespace Sys2Proof.Machine

open Sys2Proof

/-- Log 8: a command is placed as its word at the port of an idle block. -/
theorem placeInstr_command {i : Instr} {c : Byte} (hi : i.format = .commandWord) (hc : encode i = [c]) (s : State) :
    placeInstr i s = placeWord c s := by
  cases i with
  | init | read | getC | getF | getK | getR =>
    cases hc
    rfl
  | cfgRead | cfgWrite | tempRead | delay => exact nomatch hi

/-- Log 8: a frame is placed in a phase that issues it, with nothing at the port. -/
theorem placeInstr_frame {i : Instr} (hi : i.format = .busFrame) (s : State) :
    presented (placeInstr i s) = none ∧ phaseInstr (placeInstr i s) = some i := by
  refine ⟨?_, ?_⟩
  · cases i with
    | cfgRead | cfgWrite | tempRead => rfl
    | init | read | getC | getF | getK | getR | delay => exact nomatch hi
  · cases i with
    | cfgRead | tempRead => rfl
    | cfgWrite d0 d1 =>
      have hpack0 := packByte0_self d0 (d1.extractLsb' 6 2)
      have hpack1 := packByte1_self d1 (d0.extractLsb' 0 1) (d0.extractLsb' 2 1) (d0.extractLsb' 1 1)
      simp only [phaseInstr, placeInstr, latched, hpack0, hpack1]
    | init | read | getC | getF | getK | getR | delay => exact nomatch hi

/-- Log 8: the placed instruction is the one the next step runs. -/
theorem step_placeInstr {i : Instr} (hi : i.format ≠ .delayEvent) (s : State) :
    ∃ v, exec i (hostAfter (placeInstr i s)) = .next v ∧
      step (placeInstr i s) =
        .next (if i.format = .commandWord then v else afterPhase (placeInstr i s).phase v) := by
  obtain ⟨v, hv⟩ := exec_answers i (hostAfter (placeInstr i s))
  refine ⟨v, hv, ?_⟩
  cases hf : i.format with
  | commandWord =>
    obtain ⟨c, hc, hdecode⟩ := encode_commandWord hf
    have hpresented : presented (placeInstr i s) = some c := by
      rw [placeInstr_command hf hc]
      exact (issued_word rfl rfl).1
    rw [step_command hpresented hdecode, hv, if_pos rfl]
  | busFrame =>
    obtain ⟨hpresented, hphase⟩ := placeInstr_frame hf s
    rw [step_phase hpresented hphase hv, if_neg nofun]
  | delayEvent => exact absurd hf hi

/-- Log 8: the step that runs the placed instruction leaves the host's later words. -/
theorem placeInstr_host (i : Instr) (s : State) : (hostAfter (placeInstr i s)).host = s.host := by
  cases i <;> simp [placeInstr, hostAfter]

/-- Settles O5: the number decodes to the instruction, which `withFetchWord` places. -/
theorem tableWordIsReadAndRun : Obligations.TableWordIsReadAndRun := by
  intro s i hi
  have hdecode := decodeTableWord_encode hi
  have hplaced : s.withFetchWord (8 * (encode i).length) (wordOfBytes (encode i)) = placeInstr i s := by
    simp [State.withFetchWord, hdecode]
  refine ⟨hdecode, ?_⟩
  rw [hplaced]
  refine ⟨step_placeInstr hi s, placeInstr_host i s, ?_⟩
  cases i <;> exact ⟨rfl, rfl, rfl, rfl, rfl, rfl, rfl⟩

end Sys2Proof.Machine
end

section
/-! PROOFS. The control state (10_state.md R8, R12, R13, R19, R22, R23, R27, R82, R88): what no step writes, and the
invariant every step keeps. -/

namespace Sys2Proof.Machine

open Sys2Proof

namespace Stepped

variable {s t : State} (h : Stepped s t)
include h

/-- R8, R12, R13: no constructor of `Stepped` writes the parameters or what construction took from them. -/
theorem constants_kept :
    t.params = s.params ∧ t.addrSel = s.addrSel ∧ t.addr7 = s.addr7 ∧ t.busFreqHz = s.busFreqHz := by
  cases h <;> exact ⟨rfl, rfl, rfl, rfl⟩

theorem params_kept : t.params = s.params := h.constants_kept.1

/-- R22, R27: a step that enters IDLE clears `BUSY`, one that leaves it sets `BUSY`, and no other writes it. -/
theorem busy_iff_kept (hs : s.busy = 1 ↔ s.phase ≠ .idle) : t.busy = 1 ↔ t.phase ≠ .idle := by
  cases h with
  | waits | refuses | gets | pollAgain => exact hs
  | mismatches | iPost | pollTimeout | rTemp => simp [endedByMismatch]
  | acceptsInit => simp
  | acceptsRead =>
    dsimp only
    split <;> simp
  | rTrigRd hp hi =>
    have hbusy : s.busy = 1 := hs.2 (by simp [hi])
    dsimp only [answered]
    split <;> simp [hbusy]
  | iPre hp hi | iRd hp hi | iWr hp hi | rTrigWr hp hi | rTrigDly hp hi | pollReady hp hi =>
    have hbusy : s.busy = 1 := hs.2 (by simp [hi])
    simp [answered, hbusy]

/-- R23: the statuses written are 0, 1 and 2. -/
theorem status_legal_kept (hs : s.status ≠ 3) : t.status ≠ 3 := by
  cases h with
  | mismatches | iPost | pollTimeout | rTemp => simp [endedByMismatch]
  | waits | refuses | acceptsInit | acceptsRead | gets | iPre | iRd | iWr | rTrigRd | rTrigWr | rTrigDly | pollReady
  | pollAgain => exact hs

/-- R82: READ enters the handshake when `M_ONESHOT = 1`, and the handshake's own steps leave `M_ONESHOT`. -/
theorem handshake_one_shot_kept (hs : handshakePhase s.phase = true → s.mOneshot = 1)
    (ht : handshakePhase t.phase = true) : t.mOneshot = 1 := by
  cases h with
  | waits | refuses | gets | pollAgain => exact hs ht
  | rTrigRd hp hi | rTrigWr hp hi | rTrigDly hp hi => exact hs (by simp [hi, handshakePhase])
  | acceptsRead hp hr =>
    dsimp only at ht
    split at ht
    · next hone => exact hone
    · exact absurd ht (by decide)
  | acceptsInit | mismatches | iPre | iRd | iWr | iPost | pollReady | pollTimeout | rTemp =>
    simp [handshakePhase, endedByMismatch] at ht

/-- R86, R88: the delay clears `POLLS`, and a poll goes on only below the limit. -/
theorem polls_below_kept
    (hs : s.params.wf = true → s.phase = .rPoll → ∀ n, s.params.pollLimit = some n → s.polls < n)
    (hwf : t.params.wf = true) (ht : t.phase = .rPoll) (n : Nat) (hn : t.params.pollLimit = some n) : t.polls < n := by
  cases h with
  | waits | refuses | gets => exact hs hwf ht n hn
  | rTrigDly =>
    have hlim : s.params.pollLimit = some n := hn
    have hpos : 1 ≤ n := by simpa [Config.Params.wf, hlim] using hwf
    exact hpos
  | pollAgain hp hi hnr hl => exact hl n hn
  | acceptsRead | rTrigRd =>
    dsimp only [answered] at ht
    split at ht <;> cases ht
  | acceptsInit | mismatches | iPre | iRd | iWr | iPost | rTrigWr | pollReady | pollTimeout | rTemp => cases ht

/-- Every clause of the invariant is kept. -/
theorem controlInv_kept (hs : ControlInv s) : ControlInv t := by
  obtain ⟨hparams, hsel, haddr, hfreq⟩ := h.constants_kept
  exact
    { busy_iff := h.busy_iff_kept hs.busy_iff
      status_legal := h.status_legal_kept hs.status_legal
      handshake_one_shot := h.handshake_one_shot_kept hs.handshake_one_shot
      addr_sel := by rw [hsel, hparams, hs.addr_sel]
      addr7 := by rw [haddr, hsel, hs.addr7]
      bus_freq := by rw [hfreq, hparams, hs.bus_freq]
      faults := h.mFaults_kept.trans hs.faults
      polls_below := h.polls_below_kept hs.polls_below }

end Stepped

/-- Settles O54, by the inversion of a step. -/
theorem everyStepKeepsControlConsistent : Obligations.EveryStepKeepsControlConsistent :=
  fun _ _ hs h => (step_stepped h).controlInv_kept hs

/-- R125: construction leaves an idle block with the constants of its parameters. -/
theorem construct_controlInv (p : Config.Params) : ControlInv (State.construct p) where
  busy_iff := by simp [State.construct]
  status_legal := by simp [State.construct]
  handshake_one_shot := nofun
  addr_sel := rfl
  addr7 := rfl
  bus_freq := rfl
  faults := rfl
  polls_below := nofun

/-- Settles O55: reset is a construction, with the defaults of the parameter table. -/
theorem resetIsConsistentAndHasTheDefaults : Obligations.ResetIsConsistentAndHasTheDefaults := by
  refine ⟨construct_controlInv, construct_controlInv resetParams, ?_⟩
  and_intros <;> rfl

/-- Settles O49, by the inversion of a step. -/
theorem noStepWritesTheConstants : Obligations.NoStepWritesTheConstants := by
  intro s t h
  obtain ⟨hparams, hsel, haddr, hfreq⟩ := (step_stepped h).constants_kept
  exact ⟨hparams, hsel, haddr, hfreq, (step_stepped h).mFaults_kept⟩

end Sys2Proof.Machine
end

section
/-! PROOFS. The history (10_state.md R33): the events a step appends, and the temperature cache they determine (R20). -/

namespace Sys2Proof.Machine

open Sys2Proof

/-- R50, R66: the event of any of the three frames is legal. -/
theorem eventLegal_frameTxn (p : Config.Params) (f : Frame) (a : BusAnswer) : eventLegal p (frameTxn f a) = true := by
  cases f <;> rfl

/-- R51: the event of an accepted word is legal. -/
theorem eventLegal_cmd (p : Config.Params) {w : Byte} {i : Instr} (h : decodeCommand w = .ok i) :
    eventLegal p (.cmd w) = true := by
  simp [eventLegal, h, Except.isOk, Except.toBool]

/-- The word of an accessor decodes to it. -/
theorem isOk_decode_accessor {c : Byte} (h : c = 0x60 ∨ c = 0x61 ∨ c = 0x62 ∨ c = 0x63) :
    (decodeCommand c).isOk = true := by
  obtain rfl | rfl | rfl | rfl := h <;> rfl

/-- An event that a step may append and that ends no command. -/
def RunningEvent (p : Config.Params) (e : Event) : Prop := eventLegal p e = true ∧ ∀ st, e ≠ .done st

theorem runningEvent_frameTxn (p : Config.Params) (f : Frame) (a : BusAnswer) : RunningEvent p (frameTxn f a) :=
  ⟨eventLegal_frameTxn p f a, nofun⟩

/-- A step appends at most one event and ends no command, or one event and the `Done` of the command it ends. -/
theorem Stepped.appends {s t : State} (h : Stepped s t) :
    (∃ es, t.hist = s.hist ++ es ∧ es.length ≤ 1 ∧ ∀ e ∈ es, RunningEvent s.params e) ∨
    (∃ e st, t.hist = s.hist ++ [e, .done st] ∧ RunningEvent s.params e ∧ st ≠ 3 ∧
      t.status = st ∧ t.phase = .idle ∧ t.busy = 0) := by
  have one {u : State} {e : Event} (hu : u.hist = s.hist ++ [e]) (he : RunningEvent s.params e) :
      ∃ es, u.hist = s.hist ++ es ∧ es.length ≤ 1 ∧ ∀ e ∈ es, RunningEvent s.params e :=
    ⟨[e], hu, le_rfl, by simpa using he⟩
  cases h with
  | waits | refuses => exact .inl ⟨[], by simp, by simp, by simp⟩
  | acceptsInit o p r th => exact .inl (one rfl ⟨eventLegal_cmd _ (decodeCommand_initWord o p r th), nofun⟩)
  | acceptsRead => exact .inl (one rfl ⟨eventLegal_cmd _ decodeCommand_read, nofun⟩)
  | gets c x hp hr hx =>
    have hc : c = 0x60 ∨ c = 0x61 ∨ c = 0x62 ∨ c = 0x63 := by
      obtain ⟨hc, -⟩ | ⟨hc, -⟩ | ⟨hc, -⟩ | ⟨hc, -⟩ := hx <;> simp [hc]
    exact .inl (one rfl ⟨isOk_decode_accessor hc, nofun⟩)
  | iPre | rTrigDly => exact .inl (one rfl ⟨by simp [eventLegal, Instr.wf], nofun⟩)
  | iRd | rTrigRd | pollReady | pollAgain => exact .inl (one rfl (runningEvent_frameTxn _ .cfgRead _))
  | iWr | rTrigWr => exact .inl (one rfl (runningEvent_frameTxn _ (.cfgWrite _ _) _))
  | mismatches f =>
    exact .inr ⟨_, 1, rfl, runningEvent_frameTxn _ f _, by decide, rfl, rfl, rfl⟩
  | iPost => exact .inr ⟨_, 0, rfl, ⟨by simp [eventLegal, Instr.wf], nofun⟩, by decide, rfl, rfl, rfl⟩
  | pollTimeout => exact .inr ⟨_, 2, rfl, runningEvent_frameTxn _ .cfgRead _, by decide, rfl, rfl, rfl⟩
  | rTemp => exact .inr ⟨_, 0, rfl, runningEvent_frameTxn _ .tempRead _, by decide, rfl, rfl, rfl⟩

/-- Settles O57, by the events a step appends. -/
theorem historyHoldsOnlyTheBlocksEvents : Obligations.HistoryHoldsOnlyTheBlocksEvents := by
  refine ⟨fun s t hs h e he => ?_, fun _ => rfl⟩
  rw [(step_stepped h).params_kept]
  obtain ⟨es, hhist, -, hlegal⟩ | ⟨e', st, hhist, ⟨hlegal, -⟩, hst, -⟩ := (step_stepped h).appends
  · rw [hhist, List.mem_append] at he
    exact he.elim (hs e) fun hmem => (hlegal e hmem).1
  · simp only [hhist, List.mem_append, List.mem_cons, List.not_mem_nil, or_false] at he
    obtain hmem | rfl | rfl := he
    · exact hs e hmem
    · exact hlegal
    · simpa [eventLegal] using hst

/-- Settles O53, by the events a step appends. -/
theorem aCommandEndsOnce : Obligations.ACommandEndsOnce := by
  intro s t h
  obtain ⟨es, hhist, hlen, hrun⟩ | ⟨e, st, hhist, ⟨-, hne⟩, -, hstatus, hphase, hbusy⟩ := (step_stepped h).appends
  · refine ⟨es, hhist, by omega, fun st hst => ?_⟩
    obtain ⟨-, hne⟩ := hrun _ hst
    exact absurd rfl (hne st)
  · refine ⟨_, hhist, le_rfl, fun st' hst' => ?_⟩
    obtain rfl : st' = st := by
      rcases List.mem_pair.1 hst' with heq | heq
      · exact absurd heq.symm (hne st')
      · exact Event.done.inj heq
    refine ⟨rfl, hstatus, hphase, hbusy, ?_⟩
    cases e with
    | done st => exact absurd rfl (hne st)
    | cmd | txn | wait => rfl

/-- R95: `TCODE` is the last code of the history. -/
def CacheFollows (s : State) : Prop := s.tcode = lastCode s.params s.hist

/-- `TCODE` follows a history made longer when the new events change the code as they should. -/
theorem cacheFollows_appended {s t : State} {es : List Event} (hs : CacheFollows s) (hparams : t.params = s.params)
    (hhist : t.hist = s.hist ++ es) (htcode : es.foldl (cacheAfter s.params) s.tcode = t.tcode) : CacheFollows t := by
  rw [CacheFollows, lastCode, hparams, hhist, List.foldl_append, ← htcode, hs]
  rfl

/-- R94: a failed transaction leaves the cache. -/
theorem cacheAfter_mismatch {p : Config.Params} {f : Frame} {a : BusAnswer} (c : Code)
    (hn : a.count ≠ expectedCount p f) : cacheAfter p c (frameTxn f a) = c := by
  cases f with
  | tempRead => exact if_neg fun hpass => hn hpass.2
  | cfgRead | cfgWrite => rfl

/-- R93: a temperature read that passes sets the cache. -/
theorem cacheAfter_passes {p : Config.Params} {a : BusAnswer} (c : Code) (hn : a.count = p.expTempRead) :
    cacheAfter p c (tempReadTxn a) = tempCode a.byte0 a.byte1 :=
  if_pos ⟨rfl, hn⟩

/-- R95: only a passing temperature read changes the last code of the history. -/
theorem Stepped.cacheFollows_kept {s t : State} (h : Stepped s t) (hs : CacheFollows s) : CacheFollows t := by
  cases h with
  | waits | refuses => exact hs
  | acceptsInit | acceptsRead | gets | iPre | iRd | iWr | iPost | rTrigRd | rTrigWr | rTrigDly | pollReady
  | pollTimeout | pollAgain => exact cacheFollows_appended hs rfl rfl rfl
  | mismatches f hp hf hn => exact cacheFollows_appended hs rfl rfl (cacheAfter_mismatch _ hn)
  | rTemp hp hi hn => exact cacheFollows_appended hs rfl rfl (cacheAfter_passes _ hn)

/-- Settles O34, by the inversion of a step. -/
theorem cacheIsTheLastPassingTemperatureRead : Obligations.CacheIsTheLastPassingTemperatureRead :=
  ⟨fun _ _ hs h => (step_stepped h).cacheFollows_kept hs, fun _ => rfl⟩

end Sys2Proof.Machine
end

section
/-! PROOFS. The history determines the registers (10_state.md R14, R20, R23 to R26, R33): one event of a replay has on
the registers the effect that the step which records it has on the block. -/

namespace Sys2Proof.Machine

open Sys2Proof

/-- The registers of the block, the counts of its last transaction beside them. -/
def registersOf (expected actual : U32) (s : State) : Replay where
  running := runningOf s
  expected := expected
  actual := actual
  mirror := ⟨s.mOneshot, s.mPol, s.mRate, s.mTm⟩
  tcode := s.tcode
  status := s.status
  errExpected := s.errExpected
  errActual := s.errActual
  result := s.result

/-- The registers of a replay are those of the block. -/
def Replay.Agrees (m : Replay) (s : State) : Prop := m = registersOf m.expected m.actual s

theorem followsHistory_iff {s : State} : FollowsHistory s ↔ (replay s.params s.hist).Agrees s := by
  constructor
  · rintro ⟨hrunning, hmirror, htcode, hstatus, hexpected, hactual, hresult⟩
    rw [Replay.Agrees, registersOf, ← hrunning, ← hmirror, ← htcode, ← hstatus, ← hexpected, ← hactual, ← hresult]
  · intro h
    constructor <;> rw [h] <;> rfl

/-- The registers follow a history made longer when the replay of the new events takes them to the new ones. -/
theorem followsHistory_appended {s t : State} {es : List Event} (hs : FollowsHistory s) (hparams : t.params = s.params)
    (hhist : t.hist = s.hist ++ es)
    (hreplay : ∀ e a, (es.foldl (Replay.feed s.params) (registersOf e a s)).Agrees t) : FollowsHistory t := by
  rw [followsHistory_iff, hparams, hhist, replay, List.foldl_append, ← replay, followsHistory_iff.1 hs]
  exact hreplay _ _

section Feed

variable (p : Config.Params) (m : Replay) (a : BusAnswer)

/-- R33: the event of an accepted word runs its command. -/
theorem feed_cmd {w : Byte} {i : Instr} (h : decodeCommand w = .ok i) : m.feed p (.cmd w) = m.command p i := by
  simp [Replay.feed, h]

/-- R20: a temperature read that passes sets the cache. -/
theorem feed_tempReadTxn_passes (hn : a.count = p.expTempRead) :
    m.feed p (tempReadTxn a) =
      { m with expected := p.expTempRead, actual := a.count, tcode := tempCode a.byte0 a.byte1 } := by
  simp [Replay.feed, tempReadTxn, hn]

/-- R24, R25: a transaction that fails leaves its two counts. -/
theorem feed_frameTxn_mismatch {f : Frame} (hn : a.count ≠ expectedCount p f) :
    m.feed p (frameTxn f a) = { m with expected := expectedCount p f, actual := a.count } := by
  cases f with
  | cfgRead | cfgWrite => rfl
  | tempRead =>
    have hcount : a.count ≠ p.expTempRead := hn
    simp [Replay.feed, tempReadTxn, hcount]

end Feed

section Running

variable {s : State} {e a : U32}

/-- R27: while a phase of INIT runs, the command in progress is the INIT latched. -/
theorem registersOf_init (hi : initPhase s.phase = true) :
    registersOf e a s = { registersOf e a s with running := some (some (latched s)) } := by
  have hidle : s.phase ≠ .idle := fun h => by simp [initPhase, h] at hi
  simp [registersOf, runningOf, hidle, hi]

/-- R27: while a phase of READ runs, the command in progress is the READ. -/
theorem registersOf_read (hi : readPhase s.phase = true) :
    registersOf e a s = { registersOf e a s with running := some none } := by
  have hidle : s.phase ≠ .idle := fun h => by simp [readPhase, handshakePhase, h] at hi
  have hinit : initPhase s.phase = false := by
    revert hi
    cases s.phase <;> decide
  simp [registersOf, runningOf, hidle, hinit]

theorem agrees_of_read {m : Replay} (hi : readPhase s.phase = true)
    (hm : m = { registersOf m.expected m.actual s with running := some none }) : m.Agrees s :=
  hm.trans (registersOf_read hi).symm

end Running

/-- R14, R20, R23 to R26: each step's events, replayed from the registers before it, give the registers after it. -/
theorem Stepped.followsHistory_kept {s t : State} (h : Stepped s t) (hs : FollowsHistory s) : FollowsHistory t := by
  cases h with
  | waits | refuses => exact followsHistory_appended hs rfl (List.append_nil _).symm fun _ _ => rfl
  | acceptsInit o p r th =>
    refine followsHistory_appended hs rfl rfl fun _ _ => ?_
    rw [List.foldl_cons, feed_cmd _ _ (decodeCommand_initWord o p r th)]
    rfl
  | acceptsRead =>
    refine followsHistory_appended hs rfl rfl fun _ _ => agrees_of_read ?_ rfl
    dsimp only
    split <;> rfl
  | gets c x hp hr hx =>
    obtain ⟨rfl, rfl⟩ | ⟨rfl, rfl⟩ | ⟨rfl, rfl⟩ | ⟨rfl, rfl⟩ := hx <;>
    exact followsHistory_appended hs rfl rfl fun _ _ => rfl
  | mismatches f hp hf hn =>
    refine followsHistory_appended hs rfl rfl fun _ _ => ?_
    rw [List.foldl_cons, feed_frameTxn_mismatch _ _ _ hn]
    rfl
  | iPre hp hi | iRd hp hi | iWr hp hi | iPost hp hi =>
    refine followsHistory_appended hs rfl rfl fun _ _ => ?_
    rw [registersOf_init (by rw [hi]; rfl)]
    rfl
  | rTrigRd hp hi =>
    refine followsHistory_appended hs rfl rfl fun _ _ => ?_
    rw [registersOf_read (by rw [hi]; rfl)]
    refine agrees_of_read ?_ rfl
    dsimp only
    split <;> rfl
  | rTrigWr hp hi | rTrigDly hp hi | pollReady hp hi | pollTimeout n hp hi =>
    refine followsHistory_appended hs rfl rfl fun _ _ => ?_
    rw [registersOf_read (by rw [hi]; rfl)]
    rfl
  | pollAgain => exact followsHistory_appended hs rfl rfl fun _ _ => rfl
  | rTemp hp hi hn =>
    refine followsHistory_appended hs rfl rfl fun _ _ => ?_
    rw [registersOf_read (by rw [hi]; rfl), List.foldl_cons, feed_tempReadTxn_passes _ _ _ hn]
    rfl

/-- Settles O56, by the inversion of a step; construction has no history to replay. -/
theorem registersFollowTheHistory : Obligations.RegistersFollowTheHistory :=
  ⟨fun _ _ hs h => (step_stepped h).followsHistory_kept hs, fun _ => ⟨rfl, rfl, rfl, rfl, rfl, rfl, rfl⟩⟩

end Sys2Proof.Machine
end

section
/-! PROOFS. Whole commands that complete (41_config_packing.md R67 to R73, 42_acquisition.md R82 to R93), step by step
with a waiting host; one poll (R87); the failed count check in any phase (60_exceptions.md R111). -/

namespace Sys2Proof.Machine

open Sys2Proof

/-- The instruction of a frame (R50). -/
def frameInstr : Frame → Instr
  | .cfgRead => .cfgRead
  | .cfgWrite d0 d1 => .cfgWrite d0 d1
  | .tempRead => .tempRead

theorem frameInstr_injective : Function.Injective frameInstr := by
  intro f g h
  cases f <;> cases g <;> cases h <;> rfl

/-- The phase that issues a frame's instruction issues the frame; the other phases issue a delay or nothing. -/
theorem phaseFrame_of_phaseInstr {s : State} {f : Frame} (h : phaseInstr s = some (frameInstr f)) :
    phaseFrame s = some f := by
  have issues {g : Frame} (hg : phaseInstr s = some (frameInstr g)) : some g = some f :=
    congrArg some (frameInstr_injective (Option.some.inj (hg.symm.trans h)))
  unfold phaseFrame
  unfold phaseInstr at h issues
  cases hi : s.phase with
  | idle | iPre | iPost | rTrigDly =>
    rw [hi] at h
    cases f <;> exact nomatch h
  | iRd | rTrigRd | rPoll => exact issues (g := .cfgRead) (by rw [hi]; rfl)
  | iWr | rTrigWr => exact issues (g := .cfgWrite _ _) (by rw [hi]; rfl)
  | rTemp => exact issues (g := .tempRead) (by rw [hi]; rfl)

/-- Settles O46: the step of a phase whose frame fails, in R_POLL with the poll counted. -/
theorem mismatchEndsTheCommandAtOnce : Obligations.MismatchEndsTheCommandAtOnce := by
  intro s i txn expected hp hphase hframe hn
  obtain ⟨f, rfl, rfl, rfl⟩ : ∃ f, i = frameInstr f ∧ txn = frameTxn f (nextAnswer s) ∧
      expected = expectedCount s.params f := by
    obtain ⟨rfl, rfl, rfl⟩ | ⟨d0, d1, rfl, rfl, rfl⟩ | ⟨rfl, rfl, rfl⟩ := hframe
    · exact ⟨.cfgRead, rfl, rfl, rfl⟩
    · exact ⟨.cfgWrite d0 d1, rfl, rfl, rfl⟩
    · exact ⟨.tempRead, rfl, rfl, rfl⟩
  refine ⟨_, ?_, step_mismatch hp (phaseFrame_of_phaseInstr hphase) hn⟩
  split
  · next hi => exact .inr ⟨hi, rfl⟩
  · exact .inl rfl

/-- R87: after a poll with `OS = 1`, the block reads the temperature. -/
theorem pollTest_ready {s : State} (ho : osSet s = true) : pollTest s = { s with phase := .rTemp } := by
  simp [pollTest, ho]

/-- Settles O30: the three tests of a poll, in their order. -/
theorem pollTestsCountThenOsThenLimit : Obligations.PollTestsCountThenOsThenLimit := by
  intro s hp hi
  refine ⟨fun hn => ?_, fun hn hos => ?_, fun ⟨hn, hos⟩ ⟨n, hlim, hle⟩ => ?_, fun ⟨hn, hos⟩ hl => ?_⟩
  · have hstep := step_mismatch (f := .cfgRead) hp (by simp [phaseFrame, hi]) hn
    rwa [if_pos hi] at hstep
  · rw [step_rPoll_passes hp hi hn]
    exact congrArg Host.Outcome.next (pollTest_ready hos)
  · rw [step_rPoll_passes hp hi hn]
    refine congrArg Host.Outcome.next (Eq.trans (pollTest_timeout hos (pollLimitReached_eq_true hlim hle)) ?_)
    simp [raisePollTimeout, endCommand, record, answered, statusPollTimeout]
  · rw [step_rPoll_passes hp hi hn]
    refine congrArg Host.Outcome.next (Eq.trans (pollTest_again hos (pollLimitReached_eq_false hl)) ?_)
    rw [← hi]
    rfl

section WaitingHost

variable {s : State} {a : BusAnswer} {as : List BusAnswer} {rest : List HostAct}
  (hb : s.busy = 1) (hw : hostWaits s.host = true)
include hb hw

/-- R72: the configuration write of an INIT at the expected count. -/
theorem step_iWr_waiting (hi : s.phase = .iWr) (ha : s.answers = a :: as) (hn : a.count = s.params.expCfgWrite) :
    step s = .next { s with
      answers := as, phase := .iPost
      hist := s.hist ++
        [cfgWriteTxn (packByte0 (latched s) s.cfgbuf0) (packByte1 (latched s) s.cfgbuf1) a] } := by
  obtain ⟨hp, hhost⟩ := waiting_host hb hw
  have hnext := nextAnswer_cons ha
  rw [step_iWr hp hi, afterPhase_transact_passes (.cfgWrite _ _) hi nofun (fun _ _ => rfl) (hnext ▸ hn), hhost, hnext,
    frameTxn_cfgWrite, answered_cons ha]
  rfl

/-- R73: the last step of an INIT. -/
theorem step_iPost_waiting (hi : s.phase = .iPost) :
    step s = .next { s with
      mOneshot := s.lOs, mPol := s.lPol, mRate := s.lRate, mTm := s.lTm, status := 0, busy := 0, phase := .idle
      hist := s.hist ++ [.wait s.params.tInitPostMs, .done 0] } := by
  obtain ⟨hp, hhost⟩ := waiting_host hb hw
  rw [initLastStepCommitsTheMirror s hp hi, hhost]

/-- R83: the gate read at the expected count, its gate bit set. -/
theorem step_rTrigRd_waiting (hi : s.phase = .rTrigRd) (ha : s.answers = a :: as)
    (hn : a.count = s.params.expCfgRead) (hgate : a.byte0.getLsbD s.params.gateBit.index = true) :
    step s = .next { s with
      answers := as, cfgbuf0 := a.byte0, cfgbuf1 := a.byte1, phase := .rTrigWr, hist := s.hist ++ [cfgReadTxn a] } := by
  obtain ⟨hp, hhost⟩ := waiting_host hb hw
  have hnext := nextAnswer_cons ha
  rw [step_rTrigRd_passes hp hi (hnext ▸ hn), hhost, hnext, answered_cons ha, if_pos hgate]

/-- R84: the trigger write at the expected count. -/
theorem step_rTrigWr_waiting (hi : s.phase = .rTrigWr) (ha : s.answers = a :: as)
    (hn : a.count = s.params.expCfgWrite) :
    step s = .next { s with
      answers := as, phase := .rTrigDly, hist := s.hist ++ [cfgWriteTxn (triggerByte0 s.cfgbuf0) s.cfgbuf1 a] } := by
  obtain ⟨hp, hhost⟩ := waiting_host hb hw
  have hnext := nextAnswer_cons ha
  rw [step_rTrigWr_passes hp hi (hnext ▸ hn), hhost, hnext, answered_cons ha]

/-- R86: the delay after the trigger. -/
theorem step_rTrigDly_waiting (hi : s.phase = .rTrigDly) :
    step s = .next { s with polls := 0, phase := .rPoll, hist := s.hist ++ [.wait s.params.tTrigMs] } := by
  obtain ⟨hp, hhost⟩ := waiting_host hb hw
  rw [step_rTrigDly hp hi, hhost]
  rfl

/-- R87: a poll at the expected count that reads `OS = 1`. -/
theorem step_poll_ready (hi : s.phase = .rPoll) (ha : s.answers = a :: as) (hn : a.count = s.params.expCfgRead)
    (hos : a.byte0.getLsbD 7 = true) :
    step s = .next { polled [a] as a.byte0 a.byte1 s with phase := .rTemp } := by
  rw [step_rPoll_waiting hb hi hw ha hn, pollTest_ready (s := polled [a] as a.byte0 a.byte1 s) hos]

/-- R89, R93: the temperature read at the expected count, the last step of a READ. -/
theorem step_rTemp_waiting (hi : s.phase = .rTemp) (ha : s.answers = a :: as) (hn : a.count = s.params.expTempRead) :
    step s = .next { s with
      answers := as, tbuf0 := a.byte0, tbuf1 := a.byte1
      tcode := tempCode a.byte0 a.byte1, result := celsius32 (tempCode a.byte0 a.byte1)
      status := 0, busy := 0, phase := .idle, hist := s.hist ++ [tempReadTxn a, .done 0] } := by
  obtain ⟨hp, hhost⟩ := waiting_host hb hw
  have hnext := nextAnswer_cons ha
  obtain ⟨hpass, -⟩ := temperatureReadUpdatesTheCache s hp hi
  rw [hpass (hnext ▸ hn), hhost, hnext, answered_cons ha]

/-- R87, R89: the poll that reads `OS = 1` and the temperature read, both passing, end a READ. -/
theorem run_ready_poll {temp : BusAnswer} (hi : s.phase = .rPoll) (ha : s.answers = a :: temp :: as)
    (hn : a.count = s.params.expCfgRead) (hos : a.byte0.getLsbD 7 = true) (htemp : temp.count = s.params.expTempRead) :
    runSteps 2 s = .next { s with
      answers := as, cfgbuf0 := a.byte0, cfgbuf1 := a.byte1, tbuf0 := temp.byte0, tbuf1 := temp.byte1
      polls := s.polls + 1, tcode := tempCode temp.byte0 temp.byte1
      result := celsius32 (tempCode temp.byte0 temp.byte1), status := 0, busy := 0, phase := .idle
      hist := s.hist ++ [cfgReadTxn a, tempReadTxn temp, .done 0] } := by
  have hend := step_rTemp_waiting (s := { polled [a] (temp :: as) a.byte0 a.byte1 s with phase := .rTemp })
    hb hw rfl rfl htemp
  refine (run_succ (step_poll_ready hb hw hi ha hn hos)).trans ((runSteps_one hend).trans ?_)
  simp [polled]

/-- R87 to R89: the polls that read `OS = 0`, below the limit, before them. -/
theorem run_polling_read {temp : BusAnswer} {polls : List BusAnswer} (hi : s.phase = .rPoll)
    (ha : s.answers = polls ++ a :: temp :: as) (hnot : ∀ b ∈ polls, notReady s.params b)
    (hlim : ∀ n, s.params.pollLimit = some n → s.polls + polls.length < n)
    (hn : a.count = s.params.expCfgRead) (hos : a.byte0.getLsbD 7 = true) (htemp : temp.count = s.params.expTempRead) :
    runSteps (polls.length + 2) s = .next { s with
      answers := as, cfgbuf0 := a.byte0, cfgbuf1 := a.byte1, tbuf0 := temp.byte0, tbuf1 := temp.byte1
      polls := s.polls + polls.length + 1, tcode := tempCode temp.byte0 temp.byte1
      result := celsius32 (tempCode temp.byte0 temp.byte1), status := 0, busy := 0, phase := .idle
      hist := s.hist ++ polls.map cfgReadTxn ++ [cfgReadTxn a, tempReadTxn temp, .done 0] } := by
  obtain ⟨b0, b1, hpolls⟩ := run_polls 2 hb hi hw ha hnot hlim
  exact hpolls.trans
    (run_ready_poll (s := polled polls (a :: temp :: as) b0 b1 s) hb hw hi rfl hn hos htemp)

end WaitingHost

/-- Settles O22: the INIT runs up to its write, which passes, and the last step commits. -/
theorem initCompletesInFiveSteps : Obligations.InitCompletesInFiveSteps := by
  intro s o p r t rest rd wr as hr hh hw ha hrd hwr
  obtain ⟨hphase, hbusy⟩ := ready_iff.1 hr
  have hwrite := step_iWr_waiting (s := initWriting ⟨o, p, r, t⟩ rest rd (wr :: as) s) rfl hw rfl rfl hwr
  refine (run_init_to_writing (o := ⟨o, p, r, t⟩) 2 hr hh hw ha hrd).trans ((run_succ hwrite).trans ?_)
  refine (runSteps_one (step_iPost_waiting rfl hw rfl)).trans ?_
  simp [initWriting, initReading, latched, hphase, hbusy]

/-- R80: a ready block accepts a READ. -/
theorem exec_read_ready {s : State} (h : ready s = true) : exec .read s = .next (acceptRead s) :=
  congrArg Host.Outcome.next (whenReady_ready h)

/-- R80: a ready block accepts the READ its host issues. -/
theorem step_issued_read {s : State} {rest : List HostAct} (hr : ready s = true) (hh : s.host = .issue 0x40 :: rest) :
    step s = .next (acceptRead { s with host := rest }) := by
  obtain ⟨hp, hhost⟩ := issued_word (ready_iff.1 hr).2 hh
  rw [step_command hp decodeCommand_read, hhost]
  exact exec_read_ready (s := { s with host := rest }) hr

/-- Settles O26: the accepted READ is in R_TEMP, whose step ends it. -/
theorem freeRunningReadIsOneTransaction : Obligations.FreeRunningReadIsOneTransaction := by
  intro s rest a as hr hone hh hw ha hn
  obtain ⟨hphase, hbusy⟩ := ready_iff.1 hr
  have hend := step_rTemp_waiting (s := acceptRead { s with host := rest }) rfl hw (by simp [acceptRead, hone]) ha hn
  refine (run_succ (step_issued_read hr hh)).trans ((runSteps_one hend).trans ?_)
  simp [acceptRead, record, hphase, hbusy]

/-- The block entering R_POLL, after the gate read `gate`, the trigger write `wr` and the delay of a one-shot READ. -/
def readPolling (rest : List HostAct) (gate wr : BusAnswer) (as : List BusAnswer) (s : State) : State :=
  { s with
    host := rest, busy := 1, phase := .rPoll, polls := 0, answers := as, cfgbuf0 := gate.byte0, cfgbuf1 := gate.byte1
    hist := s.hist ++ [.cmd 0x40, cfgReadTxn gate, cfgWriteTxn (triggerByte0 gate.byte0) gate.byte1 wr,
      .wait s.params.tTrigMs] }

/-- R83, R84, R86: a one-shot READ reaches its first poll in four steps. -/
theorem run_read_to_polling {s : State} {rest : List HostAct} {gate wr : BusAnswer} {as : List BusAnswer} (k : Nat)
    (hr : ready s = true) (hone : s.mOneshot = 1) (hh : s.host = .issue 0x40 :: rest) (hw : hostWaits rest = true)
    (ha : s.answers = gate :: wr :: as) (hgate : gate.count = s.params.expCfgRead)
    (hbit : gate.byte0.getLsbD s.params.gateBit.index = true) (hwr : wr.count = s.params.expCfgWrite) :
    runSteps (k + 4) s = runSteps k (readPolling rest gate wr as s) := by
  have hgateStep := step_rTrigRd_waiting (s := acceptRead { s with host := rest }) rfl hw (by simp [acceptRead, hone])
    ha hgate hbit
  have hwriteStep := step_rTrigWr_waiting
    (s := { acceptRead { s with host := rest } with
      answers := wr :: as, cfgbuf0 := gate.byte0, cfgbuf1 := gate.byte1, phase := .rTrigWr
      hist := (acceptRead { s with host := rest }).hist ++ [cfgReadTxn gate] }) rfl hw rfl rfl hwr
  refine (run_succ (step_issued_read hr hh)).trans ((run_succ hgateStep).trans ((run_succ hwriteStep).trans ?_))
  refine (run_succ (step_rTrigDly_waiting rfl hw rfl)).trans ?_
  simp [acceptRead, record, readPolling]

/-- Settles O27: the handshake up to the polls, then the polls and the temperature read. -/
theorem oneShotReadCompletesAfterItsPolls : Obligations.OneShotReadCompletesAfterItsPolls := by
  intro s rest gate wr rdy temp polls as hr hone hh hw ha hgate hbit hwr hnot hrdy hos htemp hlim
  obtain ⟨hphase, hbusy⟩ := ready_iff.1 hr
  have hread := run_polling_read (s := readPolling rest gate wr (polls ++ rdy :: temp :: as) s) rfl hw rfl rfl hnot
    (by simpa [readPolling] using hlim) hrdy hos htemp
  refine (run_read_to_polling (polls.length + 2) hr hone hh hw ha hgate hbit hwr).trans (hread.trans ?_)
  simp [readPolling, triggerByte0, hphase, hbusy]

end Sys2Proof.Machine
end

section
/-! PROOFS. What a step is (10_state.md R27, log 1): the instruction it runs, the host's list, the accept steps; and how
a run with a waiting host ends (70_reset_and_hazards.md R131, R133). -/

namespace Sys2Proof.Machine

open Sys2Proof

/-- R115, R118, R133: nothing stops the machine. -/
theorem step_answers (s : State) : ∃ t, step s = .next t := by
  cases hp : presented s with
  | some w =>
    cases hd : decodeCommand w with
    | ok i =>
      rw [step_command hp hd]
      exact exec_answers i _
    | error e => exact ⟨_, step_reserved hp hd⟩
  | none =>
    cases hi : phaseInstr s with
    | some i =>
      obtain ⟨t, ht⟩ := exec_answers i (hostAfter s)
      exact ⟨_, step_phase hp hi ht⟩
    | none => exact ⟨hostAfter s, by simp [step, hp, hi]⟩

/-- Settles O13. -/
theorem everyStepAnswersANextState : Obligations.EveryStepAnswersANextState := step_answers

/-- Settles O8: the lemmas about a step, case by case. -/
theorem stepRunsTheDecodedInstruction : Obligations.StepRunsTheDecodedInstruction := by
  refine fun s => ⟨fun w i hp hd => step_command hp hd, fun i t hp hi ht => step_phase hp hi ht, fun hp hi => ?_⟩
  rw [step_idle hp hi, ← hostAfter_eq]

/-- Settles O9: the row of the phase in the sequencer's table. -/
theorem eachPhaseIssuesItsTransaction : Obligations.EachPhaseIssuesItsTransaction := by
  intro s
  and_intros <;>
  · intro hi
    simp [phaseInstr, hi, packByte0, packByte1, latched, triggerByte0]

/-- Settles O17. -/
theorem delayRecordsItsLowerBound : Obligations.DelayRecordsItsLowerBound := fun _ _ => rfl

/-- Settles O19: a ready block accepts both, and `M_ONESHOT` selects READ's path. -/
theorem initAndReadAreAcceptedWhenIdle : Obligations.InitAndReadAreAcceptedWhenIdle := by
  refine ⟨fun s o p r t hr => exec_init_ready hr o p r t, fun s hr => ⟨fun hone => ?_, fun hzero => ?_⟩⟩
  · rw [exec_read_ready hr, acceptRead, if_pos hone]
    rfl
  · rw [exec_read_ready hr, acceptRead, if_neg (by simp [hzero])]
    rfl

/-- Log 1: whatever a step does, the host's list moves on as `hostAfter` says. -/
theorem Stepped.host {s t : State} (h : Stepped s t) : t.host = (hostAfter s).host := by
  cases h <;> rfl

/-- Settles O12: each form of the list's head, then the executor's list. -/
theorem hostAndExecutorListsAreServedInOrder : Obligations.HostAndExecutorListsAreServedInOrder := by
  refine ⟨fun s t w rest h => ⟨fun hb hh => ?_, fun hb hh => ?_, fun hh => ?_, fun hh => ?_⟩,
    fun s => ⟨takeAnswer_eq s, fun a as ha => ⟨nextAnswer_cons ha, takeAnswer_cons ha⟩⟩⟩
  · obtain ⟨hp, hhost⟩ := waiting_host hb (by rw [hh]; rfl)
    exact ⟨hp, by rw [(step_stepped h).host, hhost]⟩
  · obtain ⟨hp, hhost⟩ := issued_word hb hh
    exact ⟨hp, by rw [(step_stepped h).host, hhost]⟩
  · obtain ⟨hp, hhost⟩ := forced_word hh
    exact ⟨hp, by rw [(step_stepped h).host, hhost]⟩
  · refine ⟨by rw [presented, hh], ?_⟩
    rw [(step_stepped h).host, hostAfter, hh]

/-- R131: the host waits, and the block is busy while a command runs. -/
def Waiting (s : State) : Prop := hostWaits s.host = true ∧ (s.busy = 1 ↔ s.phase ≠ .idle)

theorem Waiting.presented_eq_none {s : State} (hs : Waiting s) (hi : s.phase ≠ .idle) : presented s = none := by
  obtain ⟨hw, hb⟩ := hs
  exact (waiting_host (hb.2 hi) hw).1

/-- A step of a running command leaves the host waiting. -/
theorem Stepped.waiting_kept {s t : State} (h : Stepped s t) (hs : Waiting s) (hi : s.phase ≠ .idle) : Waiting t := by
  obtain ⟨hw, hb⟩ := hs
  obtain ⟨-, hhost⟩ := waiting_host (hb.2 hi) hw
  exact ⟨by rw [h.host, hhost, hw], h.busy_iff_kept hb⟩

/-- A run comes to what it is to reach within as many steps as a measure says that every step before brings down. -/
theorem run_reaches {inv goal : State → Prop} {measure : State → Nat}
    (hstep : ∀ s t, inv s → ¬ goal s → step s = .next t → inv t ∧ measure t < measure s) {s : State} (hs : inv s) :
    ∃ k t, k ≤ measure s ∧ runSteps k s = .next t ∧ goal t := by
  induction hm : measure s using Nat.strong_induction_on generalizing s with
  | _ m ih =>
    subst hm
    by_cases hgoal : goal s
    · exact ⟨0, s, Nat.zero_le _, rfl, hgoal⟩
    · obtain ⟨u, hu⟩ := step_answers s
      obtain ⟨hinv, hlt⟩ := hstep s u hs hgoal hu
      obtain ⟨k, t, hk, hrun, ht⟩ := ih _ hlt hinv rfl
      exact ⟨k + 1, t, by omega, (run_succ hu).trans hrun, ht⟩

/-- R133: how many steps a command takes from a phase at most until it polls or ends. -/
def stepsToPoll : Phase → Nat
  | .idle => 0
  | .iPre => 4
  | .iRd => 3
  | .iWr => 2
  | .iPost => 1
  | .rTrigRd => 3
  | .rTrigWr => 2
  | .rTrigDly => 1
  | .rPoll => 0
  | .rTemp => 1

theorem stepsToPoll_le (ph : Phase) : stepsToPoll ph ≤ 4 := by
  cases ph <;> decide

theorem stepsToPoll_pos {ph : Phase} (hi : ph ≠ .idle) (hpoll : ph ≠ .rPoll) : 0 < stepsToPoll ph := by
  revert hi hpoll
  cases ph <;> decide

/-- R133: outside the poll every step of a command gets nearer to its end. -/
theorem Stepped.stepsToPoll_lt {s t : State} (h : Stepped s t) (hp : presented s = none) (hi : s.phase ≠ .idle)
    (hpoll : s.phase ≠ .rPoll) : stepsToPoll t.phase < stepsToPoll s.phase := by
  cases h with
  | waits _ hidle => exact absurd hidle hi
  | refuses w hw | acceptsInit _ _ _ _ hw | acceptsRead hw | gets c x hw => exact absurd (hp.symm.trans hw) nofun
  | pollReady _ hph | pollTimeout _ _ hph | pollAgain _ hph => exact absurd hph hpoll
  | mismatches => exact stepsToPoll_pos hi hpoll
  | rTrigRd _ hph =>
    rw [hph]
    dsimp only
    split <;> decide
  | iPre _ hph | iRd _ hph | iWr _ hph | iPost _ hph | rTrigWr _ hph | rTrigDly _ hph | rTemp _ hph =>
    simp [stepsToPoll, hph]

/-- Settles O58: `stepsToPoll` is the measure of the run. -/
theorem onlyThePollCanRunForEver : Obligations.OnlyThePollCanRunForEver := by
  intro s hb hw hpoll
  by_cases hidle : s.phase = .idle
  · exact ⟨0, s, Nat.zero_le _, rfl, .inl hidle⟩
  obtain ⟨k, t, hk, hrun, ht⟩ := run_reaches (inv := Waiting) (goal := fun s => s.phase = .idle ∨ s.phase = .rPoll)
    (measure := fun s => stepsToPoll s.phase) (fun s t hs hnot h => by
      obtain ⟨hi, hpoll⟩ := not_or.1 hnot
      exact ⟨(step_stepped h).waiting_kept hs hi,
        (step_stepped h).stepsToPoll_lt (hs.presented_eq_none hi) hi hpoll⟩)
    (s := s) ⟨hw, by simp [hb, hidle]⟩
  exact ⟨k, t, hk.trans (stepsToPoll_le _), hrun, ht⟩

/-- R88: with the limit `n`, how many steps a READ takes at most for the polls ahead and the step after them. -/
def pollSteps (n : Nat) (s : State) : Nat :=
  match s.phase with
  | .rTrigRd => n + 1
  | .rTrigWr => n + 1
  | .rTrigDly => n + 1
  | .rPoll => max 1 (n - s.polls) + 1
  | .idle => 0
  | .iPre => 0
  | .iRd => 0
  | .iWr => 0
  | .iPost => 0
  | .rTemp => 0

/-- R88, R133: with the limit `n`, how many steps a command takes at most until it ends. -/
def stepsToEnd (n : Nat) (s : State) : Nat := stepsToPoll s.phase + pollSteps n s

theorem stepsToEnd_le {n : Nat} (hn : 1 ≤ n) (s : State) : stepsToEnd n s ≤ n + 4 := by
  unfold stepsToEnd pollSteps
  cases s.phase <;> simp only [stepsToPoll] <;> omega

theorem stepsToEnd_pos (n : Nat) {s : State} (hi : s.phase ≠ .idle) : 0 < stepsToEnd n s := by
  revert hi
  unfold stepsToEnd pollSteps
  cases s.phase <;> simp [stepsToPoll]

/-- R88, R133: with a poll limit every step of a command gets nearer to its end. -/
theorem Stepped.stepsToEnd_lt {s t : State} {n : Nat} (h : Stepped s t) (hp : presented s = none)
    (hi : s.phase ≠ .idle) (hlim : s.params.pollLimit = some n) (hn : 1 ≤ n) : stepsToEnd n t < stepsToEnd n s := by
  cases h with
  | waits _ hidle => exact absurd hidle hi
  | refuses w hw | acceptsInit _ _ _ _ hw | acceptsRead hw | gets c x hw => exact absurd (hp.symm.trans hw) nofun
  | mismatches | iPost | pollTimeout | rTemp => exact stepsToEnd_pos n hi
  | rTrigRd _ hph =>
    dsimp only [stepsToEnd, pollSteps]
    rw [hph]
    split <;> simp only [stepsToPoll] <;> omega
  | pollAgain _ hph _ hl =>
    have hbelow := hl n hlim
    simp only [stepsToEnd, pollSteps, answered, hph]
    omega
  | iPre _ hph | iRd _ hph | iWr _ hph | rTrigWr _ hph | rTrigDly _ hph | pollReady _ hph =>
    simp only [stepsToEnd, pollSteps, stepsToPoll, hph]
    omega

/-- Settles O59: `stepsToEnd` is the measure of the run. -/
theorem boundedPollEndsEveryCommand : Obligations.BoundedPollEndsEveryCommand := by
  intro s n hb hw hlim hn
  by_cases hidle : s.phase = .idle
  · exact ⟨0, s, Nat.zero_le _, rfl, hidle⟩
  obtain ⟨k, t, hk, hrun, ht⟩ := run_reaches (inv := fun s => Waiting s ∧ s.params.pollLimit = some n)
    (goal := fun s => s.phase = .idle) (measure := stepsToEnd n) (fun s t ⟨hs, hlim⟩ hi h =>
      ⟨⟨(step_stepped h).waiting_kept hs hi, (step_stepped h).params_kept ▸ hlim⟩,
        (step_stepped h).stepsToEnd_lt (hs.presented_eq_none hi) hi hlim hn⟩)
    (s := s) ⟨⟨hw, by simp [hb, hidle]⟩, hlim⟩
  exact ⟨k, t, hk.trans (stepsToEnd_le hn _), hrun, ht⟩

end Sys2Proof.Machine
end

section
/-! PROOFS. What a step does not depend on (10_state.md R12, R13, R16 to R19, R33, 42_acquisition.md R48, R97,
43_unit_accessors.md R105), and the packing as a read-modify-write (41_config_packing.md R75). -/

namespace Sys2Proof.Machine

open Sys2Proof

/-- Settles O21: the packed bytes keep their other bits, so packing them again gives the same fields side by side. -/
theorem packingIsAnIdempotentReadModifyWrite : Obligations.PackingIsAnIdempotentReadModifyWrite := by
  intro o b0 b1
  refine ⟨⟨packByte0_os o b0, packByte0_tm o b0, packByte0_pol o b0, packByte1_rate o b1⟩,
    ⟨packByte0_rest o b0, packByte1_rest o b1⟩, ⟨?_, ?_⟩, fun hos htm hpol hrate => ?_⟩
  · rw [packByte0_eq_append o (packByte0 o b0), packByte0_rest, ← packByte0_eq_append]
  · rw [packByte1_eq_append o (packByte1 o b1), packByte1_rest, ← packByte1_eq_append]
  · obtain ⟨os, pol, rate, tm⟩ := o
    obtain ⟨rfl, rfl, rfl, rfl⟩ := And.intro hos (And.intro hpol (And.intro hrate htm))
    exact ⟨packByte0_self b0 _, packByte1_self b1 _ _ _⟩

/-- R101 to R104: an accepted accessor writes a value of the code under the block's arithmetic. -/
theorem exec_accessor_ready {i : Instr} (hi : isAccessor i = true) :
    ∃ (c : Byte) (value : AccessorArith → Code → U32), ∀ s : State, ready s = true →
      exec i s = .next (accessor c (value s.params.accessorArith s.tcode) s) := by
  cases i with
  | getC => exact ⟨_, fun _ => celsius32, fun _ hr => exec_getC_ready hr⟩
  | getF => exact ⟨_, fahrenheit32, fun _ hr => exec_getF_ready hr⟩
  | getK => exact ⟨_, kelvin32, fun _ hr => exec_getK_ready hr⟩
  | getR => exact ⟨_, rankine32, fun _ hr => exec_getR_ready hr⟩
  | init | read | cfgRead | cfgWrite | tempRead | delay => exact nomatch hi

/-- R105: the source's values, under both arithmetics. -/
theorem accessor_values (a : AccessorArith) :
    fahrenheit32 a 0x000 = 0x42000000 ∧ fahrenheit32 a 0x640 = 0x43540000 ∧ kelvin32 a 0x000 = 0x43889333 := by
  cases a <;> decide +kernel

/-- Settles O44: an accessor leaves the block ready, and the code and the arithmetic that the next one reads. -/
theorem accessorsArePure : Obligations.AccessorsArePure := by
  refine ⟨accessor_values, fun s t u v i j hi hj hr ht hu hv => ?_⟩
  obtain ⟨c, value, hexec⟩ := exec_accessor_ready hi
  obtain ⟨d, value', hexec'⟩ := exec_accessor_ready hj
  cases (hexec s hr).symm.trans ht
  cases (hexec' (accessor c (value s.params.accessorArith s.tcode) s) hr).symm.trans hu
  cases (hexec' s hr).symm.trans hv
  exact ⟨rfl, ⟨c, rfl⟩, rfl⟩

/-- Log 1: how the host's list moves on depends on the list and `BUSY` alone. -/
theorem hostAfter_host_congr {s s' : State} (hh : s.host = s'.host) (hb : s.busy = s'.busy) :
    (hostAfter s).host = (hostAfter s').host := by
  unfold hostAfter
  rw [← hh, ← hb]
  split
  · split
    · rfl
    · exact hh
  · rfl
  · rfl
  · exact hh

/-- Settles O52: whether the counts pass or fail, the two steps leave the same code. -/
theorem lowNibbleOfTheTemperatureIsIgnored : Obligations.LowNibbleOfTheTemperatureIsIgnored := by
  rintro s t t' a ⟨_, _, b1'⟩ as hp hi rfl rfl hnibble ht ht'
  have hcode := tempCode_low_nibble a.byte0 hnibble
  obtain ⟨hpass, hfail⟩ := temperatureReadUpdatesTheCache { s with answers := a :: as } hp hi
  obtain ⟨hpass', hfail'⟩ :=
    temperatureReadUpdatesTheCache { s with answers := ⟨a.count, a.byte0, b1'⟩ :: as } hp hi
  have hhost : (hostAfter { s with answers := ⟨a.count, a.byte0, b1'⟩ :: as }).host =
      (hostAfter { s with answers := a :: as }).host := hostAfter_host_congr rfl rfl
  by_cases hn : a.count = s.params.expTempRead
  · cases (hpass hn).symm.trans ht
    cases (hpass' hn).symm.trans ht'
    simp [hhost, nextAnswer, hcode, answered, takeAnswer]
  · cases (hfail hn).symm.trans ht
    cases (hfail' hn).symm.trans ht'
    simp [hhost, nextAnswer, endedByMismatch, takeAnswer]

/-- The elements no rule reads: R12, R13, R16 to R19. -/
structure Unread where
  mPol : Bit
  mRate : BitVec 2
  mTm : Bit
  mFaults : BitVec 2
  addrSel : AddrSel
  addr7 : BitVec 7
  busFreqHz : U32

/-- Those elements of a block. -/
def unreadOf (s : State) : Unread := ⟨s.mPol, s.mRate, s.mTm, s.mFaults, s.addrSel, s.addr7, s.busFreqHz⟩

/-- The block with other values in them, and more history before its own. -/
def hide (u : Unread) (h : List Event) (s : State) : State :=
  { s with
    mPol := u.mPol, mRate := u.mRate, mTm := u.mTm, mFaults := u.mFaults
    addrSel := u.addrSel, addr7 := u.addr7, busFreqHz := u.busFreqHz, hist := h ++ s.hist }

section Hide

variable (u : Unread) (h : List Event) (s : State)

theorem hostAfter_hide : hostAfter (hide u h s) = hide u h (hostAfter s) := by
  have hhost : (hostAfter (hide u h s)).host = (hostAfter s).host := hostAfter_host_congr rfl rfl
  rw [hostAfter_eq (hide u h s), hhost, hostAfter_eq s]
  rfl

theorem record_hide (e : Event) : record e (hide u h s) = hide u h (record e s) := by
  simp [record, hide]

theorem endCommand_hide (st : BitVec 2) : endCommand st (hide u h s) = hide u h (endCommand st s) :=
  record_hide u h { s with status := st, busy := 0, phase := .idle } (.done st)

theorem takeAnswer_hide : takeAnswer (hide u h s) = hide u h (takeAnswer s) := by
  unfold takeAnswer
  cases hs : s.answers <;> simp [hide, hs]

theorem bus_hide (f : Frame) (a : BusAnswer) : bus f a (hide u h s) = hide u h (bus f a s) := by
  rw [bus, takeAnswer_hide, record_hide]
  rfl

theorem transact_hide (f : Frame) {store : BusAnswer → State → State}
    (hstore : ∀ a s, store a (hide u h s) = hide u h (store a s)) :
    transact f store (hide u h s) = hide u h (transact f store s) := by
  by_cases hn : (nextAnswer s).count = expectedCount s.params f
  · rw [transact_passes hn, transact_passes (s := hide u h s) hn, ← hstore, ← bus_hide]
    rfl
  · rw [transact_mismatch hn, transact_mismatch (s := hide u h s) hn, raiseMismatch, raiseMismatch, ← endCommand_hide]
    congr 1
    rw [show nextAnswer (hide u h s) = nextAnswer s from rfl, bus_hide]
    rfl

theorem whenReady_hide {effect : State → State} (heffect : effect (hide u h s) = hide u h (effect s)) :
    whenReady effect (hide u h s) = hide u h (whenReady effect s) := by
  obtain ⟨hr, heq⟩ | ⟨hr, heq⟩ := whenReady_cases effect s
  · rw [heq, ← heffect]
    exact whenReady_ready hr
  · rw [heq, whenReady, if_neg (by simpa [ready, hide] using hr)]
    rfl

theorem pollTest_hide : pollTest (hide u h s) = hide u h (pollTest s) := by
  obtain ⟨ho, heq⟩ | ⟨ho, hl, heq⟩ | ⟨ho, hl, heq⟩ := pollTest_cases s <;> rw [heq]
  · exact pollTest_ready ho
  · exact (pollTest_timeout (s := hide u h s) ho hl).trans (endCommand_hide u h s statusPollTimeout)
  · exact pollTest_again ho hl

theorem countPoll_hide (ph : Phase) : countPoll ph (hide u h s) = hide u h (countPoll ph s) := by
  unfold countPoll
  split <;> rfl

theorem acceptInit_hide (o p : Bit) (r : BitVec 2) (t : Bit) :
    acceptInit o p r t (hide u h s) = hide u h (acceptInit o p r t s) :=
  record_hide u h { s with lOs := o, lPol := p, lRate := r, lTm := t, busy := 1, phase := .iPre } _

theorem acceptRead_hide : acceptRead (hide u h s) = hide u h (acceptRead s) :=
  record_hide u h { s with busy := 1, phase := if s.mOneshot = 1 then .rTrigRd else .rTemp } _

theorem accessor_hide (c : Byte) (x : U32) : accessor c x (hide u h s) = hide u h (accessor c x s) :=
  record_hide u h { s with result := x } _

/-- No instruction reads or writes the unread elements, or reads `HIST`. -/
theorem exec_hide {i : Instr} {s t : State} (hx : exec i s = .next t) : exec i (hide u h s) = .next (hide u h t) := by
  cases i with
  | init o p r th =>
    cases hx
    exact congrArg Host.Outcome.next (whenReady_hide u h s (acceptInit_hide u h s o p r th))
  | read =>
    cases hx
    exact congrArg Host.Outcome.next (whenReady_hide u h s (acceptRead_hide u h s))
  | getC | getF | getK | getR =>
    cases hx
    exact congrArg Host.Outcome.next (whenReady_hide u h s (accessor_hide u h s _ _))
  | cfgRead | cfgWrite | tempRead =>
    cases hx
    exact congrArg Host.Outcome.next (transact_hide u h s _ fun _ _ => rfl)
  | delay ms =>
    cases hx
    exact congrArg Host.Outcome.next (record_hide u h s _)

end Hide

/-- What a phase writes does not depend on the unread elements or `HIST`; the commit of the mirror writes some of the
unread elements. -/
theorem advance_hide (u : Unread) (ph : Phase) (s : State) :
    ∃ u', ∀ h, advance ph (hide u h s) = hide u' h (advance ph s) := by
  cases ph with
  | idle | iPre | iRd | iWr | rTrigRd | rTrigWr | rTrigDly => exact ⟨u, fun _ => rfl⟩
  | iPost =>
    exact ⟨_, fun h =>
      endCommand_hide { u with mPol := s.lPol, mRate := s.lRate, mTm := s.lTm } h (commitMirror s) statusOk⟩
  | rPoll => exact ⟨u, fun h => pollTest_hide u h s⟩
  | rTemp => exact ⟨u, fun h => endCommand_hide u h (updateCache s) statusOk⟩

theorem afterPhase_hide (u : Unread) (ph : Phase) (s : State) :
    ∃ u', ∀ h, afterPhase ph (hide u h s) = hide u' h (afterPhase ph s) := by
  by_cases hi : s.phase = .idle
  · refine ⟨u, fun h => ?_⟩
    rw [afterPhase_ended hi, afterPhase_ended (s := hide u h s) hi, countPoll_hide]
  · obtain ⟨u', hadvance⟩ := advance_hide u ph (countPoll ph s)
    refine ⟨u', fun h => ?_⟩
    rw [afterPhase_running hi, afterPhase_running (s := hide u h s) hi, countPoll_hide, hadvance]

/-- A step takes blocks that differ in the unread elements and `HIST` to blocks that differ in them. -/
theorem step_hide (u : Unread) {s t : State} (hstep : step s = .next t) :
    ∃ u', ∀ h, step (hide u h s) = .next (hide u' h t) := by
  obtain ⟨hp, hi, rfl⟩ | ⟨w, e, hp, hd, rfl⟩ | ⟨w, i, hp, hd, hx⟩ | ⟨i, v, hp, hi, hx, rfl⟩ := step_cases hstep
  · refine ⟨u, fun h => ?_⟩
    rw [step_idle (s := hide u h s) hp hi, hostAfter_hide]
  · refine ⟨u, fun h => ?_⟩
    rw [step_reserved (s := hide u h s) hp hd, hostAfter_hide]
    rfl
  · refine ⟨u, fun h => ?_⟩
    rw [step_command (s := hide u h s) hp hd, hostAfter_hide, exec_hide u h hx]
  · obtain ⟨u', hafter⟩ := afterPhase_hide u s.phase v
    refine ⟨u', fun h => ?_⟩
    have hx' : exec i (hostAfter (hide u h s)) = .next (hide u h v) := by
      rw [hostAfter_hide, exec_hide u h hx]
    exact (step_phase (s := hide u h s) hp hi hx').trans (congrArg Host.Outcome.next (hafter h))

/-- Blocks that agree in all elements that rules read differ only in the others. -/
theorem hide_of_forgetUnread_eq {s s' : State} (h : forgetUnread s = forgetUnread s') :
    s' = hide (unreadOf s') [] s := by
  calc s'
      _ = hide (unreadOf s') [] (forgetUnread s') := rfl
      _ = hide (unreadOf s') [] (forgetUnread s) := by rw [h]
      _ = hide (unreadOf s') [] s := rfl

/-- Settles O50: the second block is the first with other values in the unread elements. -/
theorem unreadElementsNeverMatter : Obligations.UnreadElementsNeverMatter := by
  intro s s' t t' heq ht ht'
  obtain ⟨u', hhide⟩ := step_hide (unreadOf s') ht
  rw [hide_of_forgetUnread_eq heq, hhide []] at ht'
  cases ht'
  rfl

/-- R33: more history before a block's own changes a step in that alone. -/
theorem step_prepend {s t : State} (hstep : step s = .next t) (h : List Event) :
    step { s with hist := h ++ s.hist } = .next { t with hist := h ++ t.hist } := by
  obtain ⟨u', hhide⟩ := step_hide (unreadOf s) hstep
  have hsame : hide u' [] t = t := by
    have hempty : hide (unreadOf s) [] s = s := rfl
    have hnext := hhide []
    rw [hempty, hstep] at hnext
    exact (Host.Outcome.next.inj hnext).symm
  calc step { s with hist := h ++ s.hist }
      _ = .next (hide u' h t) := hhide h
      _ = .next { hide u' [] t with hist := h ++ t.hist } := rfl
      _ = .next { t with hist := h ++ t.hist } := by rw [hsame]

/-- Settles O51: the events are those the step appends to an empty history. -/
theorem historyIsWrittenAndNeverRead : Obligations.HistoryIsWrittenAndNeverRead := by
  intro s t hstep
  obtain ⟨v, hv⟩ := step_answers { s with hist := [] }
  have hany (h : List Event) : step { s with hist := h } = .next { v with hist := h ++ v.hist } := by
    simpa using step_prepend hv h
  obtain rfl : { v with hist := s.hist ++ v.hist } = t := Host.Outcome.next.inj ((hany s.hist).symm.trans hstep)
  exact ⟨v.hist, rfl, hany⟩

end Sys2Proof.Machine
end

section
/-! PROOFS. Rounding to binary32 (00_scope.md R9) gives a nearest finite value, a tie the even one; so a rational that has
a pattern is rounded to itself. -/

namespace Sys2Proof.Machine

open Sys2Proof

/-- The largest finite value. -/
def maxFinite : Rat := value32 0x7F7FFFFF

/-- A number with a significand of 24 bits, at an exponent that is not below that of the smallest normal numbers. -/
def Representable (v : Rat) : Prop := ∃ k f : Int, -126 ≤ f ∧ |k| < 2 ^ 24 ∧ v = k * 2 ^ (f - 23)

theorem Representable.neg {v : Rat} (h : Representable v) : Representable (-v) := by
  obtain ⟨k, f, hf, hk, rfl⟩ := h
  exact ⟨-k, f, hf, by rwa [abs_neg], by push_cast; ring⟩

/-- The fields of a pattern: the exponent field 0 counts as 1, without the hidden bit. -/
theorem representable_fields {fr : Nat} (ex : Nat) (hfr : fr < 2 ^ 23) :
    Representable (if ex = 0 then scale2 fr (-149) else scale2 (2 ^ 23 + fr) (ex - 150)) := by
  split
  · refine ⟨fr, -126, le_rfl, ?_, ?_⟩
    · rw [Nat.abs_cast]
      omega
    · rw [scale2_eq]
      norm_num
  · refine ⟨(2 ^ 23 + fr : Nat), ex - 127, by omega, ?_, ?_⟩
    · rw [Nat.abs_cast]
      omega
    · rw [scale2_eq, sub_sub]
      norm_num

/-- Every pattern denotes a representable number. -/
theorem representable_value32 (x : U32) : Representable (value32 x) := by
  have hmag := representable_fields (x.extractLsb' 23 8).toNat (x.extractLsb' 0 23).isLt
  unfold value32
  dsimp only
  split
  · exact hmag.neg
  · exact hmag

/-- The value of the pattern that has a given significand, a carry into the exponent included. -/
theorem magnitudeValue_significand {e : Int} {m : Nat} (he : -126 ≤ e) (hm : m ≤ 2 ^ 24)
    (hnormal : -126 < e → 2 ^ 23 ≤ m) : magnitudeValue ((e + 126).toNat * 2 ^ 23 + m) = m * 2 ^ (e - 23) := by
  obtain ⟨k, rfl⟩ : ∃ k : Nat, e = k - 126 := ⟨(e + 126).toNat, by omega⟩
  have hk : ((k : Int) - 126 + 126).toNat = k := by omega
  rw [hk, magnitudeValue]
  obtain hsub | hnorm := Nat.lt_or_ge m (2 ^ 23)
  · obtain rfl : k = 0 := by omega
    have hdiv : (0 * 2 ^ 23 + m) / 2 ^ 23 = 0 := by omega
    have hmod : (0 * 2 ^ 23 + m) % 2 ^ 23 = m := by omega
    rw [hdiv, hmod, if_pos rfl, scale2_eq]
    norm_num
  obtain hlt | rfl := hm.lt_or_eq
  · have hdiv : (k * 2 ^ 23 + m) / 2 ^ 23 = k + 1 := by omega
    have hmod : 2 ^ 23 + (k * 2 ^ 23 + m) % 2 ^ 23 = m := by omega
    have hexp : ((k + 1 : Nat) : Int) - 150 = k - 126 - 23 := by omega
    rw [hdiv, hmod, if_neg (Nat.succ_ne_zero _), scale2_eq, hexp]
  · have hdiv : (k * 2 ^ 23 + 2 ^ 24) / 2 ^ 23 = k + 2 := by omega
    have hmod : (k * 2 ^ 23 + 2 ^ 24) % 2 ^ 23 = 0 := by omega
    have hexp : ((k + 2 : Nat) : Int) - 150 = (1 : Nat) + (k - 126 - 23) := by omega
    rw [hdiv, hmod, if_neg (Nat.succ_ne_zero _), scale2_eq, two_zpow_eq 1 hexp]
    push_cast
    ring

/-- An integer within 1/2 is a nearest one; another integer is as near only in a tie. -/
theorem nearest_int {x : Rat} {m j : Int} (h : |x - m| ≤ 1 / 2) :
    |x - m| ≤ |x - j| ∧ (|x - m| = |x - j| → j ≠ m → |x - m| = 1 / 2) := by
  by_cases hjm : j = m
  · exact ⟨by rw [hjm], fun _ hne => absurd hjm hne⟩
  · have hgap : (1 : Rat) ≤ |(m : Rat) - j| := by
      exact_mod_cast Int.one_le_abs (sub_ne_zero.2 (Ne.symm hjm))
    have htriangle : |(m : Rat) - j| ≤ |x - m| + |x - j| := by
      rw [abs_sub_comm x m]
      exact abs_sub_le (m : Rat) x j
    exact ⟨by linarith, fun heq _ => by linarith⟩

section Nearest

variable {q : Rat} (hq : 0 < q) (hmax : q ≤ maxFinite)

/-- The significand a positive rational is rounded to. -/
def significandOf (q : Rat) : Nat := significand q.num.natAbs q.den (binade q)

include hq

theorem natAbs_num_pos : 0 < q.num.natAbs := by simp [hq.ne']

/-- The significand is the rational in units of the last place, rounded half to even. -/
theorem significandOf_spec :
    |q / 2 ^ (binade q - 23) - significandOf q| ≤ 1 / 2 ∧
    (|q / 2 ^ (binade q - 23) - significandOf q| = 1 / 2 → significandOf q % 2 = 0) := by
  have hspec := roundHalfEven_spec (q.num.natAbs * 2 ^ (-(binade q - 23)).toNat)
    (d := q.den * 2 ^ (binade q - 23).toNat) (by positivity)
  rwa [shifted_ratio, natAbs_div_den hq] at hspec

include hmax

/-- A rational up to the largest finite value is not rounded to infinity. -/
theorem magnitude32_le_max : magnitude32 q.num.natAbs q.den ≤ 0x7F7FFFFF := by
  have hmaxpos : 0 < maxFinite := hq.trans_le hmax
  have hmagnitude : magnitude32 maxFinite.num.natAbs maxFinite.den = 0x7F7FFFFF := by decide +kernel
  rw [← hmagnitude]
  refine magnitude32_mono (natAbs_num_pos hq) q.den_pos (natAbs_num_pos hmaxpos) maxFinite.den_pos ?_
  exact (natAbs_div_den hq).trans_le (hmax.trans_eq (natAbs_div_den hmaxpos).symm)

theorem magnitude32_eq_significandOf :
    magnitude32 q.num.natAbs q.den = (binade q + 126).toNat * 2 ^ 23 + significandOf q := by
  have hle := magnitude32_le_max hq hmax
  have heq := magnitude32_eq (natAbs_num_pos hq) q.den_pos
  rw [natAbs_div_den hq] at heq
  unfold significandOf
  omega

/-- The rounded value in units of the last place. -/
theorem value32_rnd32_eq : value32 (rnd32 q) = significandOf q * 2 ^ (binade q - 23) := by
  have hratio := natAbs_div_den hq
  rw [value32_rnd32_of_pos hq, magnitude32_eq_significandOf hq hmax]
  refine magnitudeValue_significand (le_max_right _ _) ?_ fun hlt => ?_
  · exact significand_le q.den_pos (by rw [hratio]; exact lt_zpow_binade_add_one q)
  · exact le_significand q.den_pos (by rw [hratio]; exact zpow_binade_le hq hlt)

/-- Of all multiples of the unit of the last place the rounded value is a nearest one, in a tie an even one. -/
theorem nearest_multiple (j : Int) :
    |value32 (rnd32 q) - q| ≤ |j * 2 ^ (binade q - 23) - q| ∧
    (|value32 (rnd32 q) - q| = |j * 2 ^ (binade q - 23) - q| →
      j * 2 ^ (binade q - 23) ≠ value32 (rnd32 q) → significandOf q % 2 = 0) := by
  have hunit : (0 : Rat) < 2 ^ (binade q - 23) := by positivity
  obtain ⟨hnear, heven⟩ := significandOf_spec hq
  rw [value32_rnd32_eq hq hmax]
  generalize (2 : Rat) ^ (binade q - 23) = u at *
  have hdist (i : Rat) : |i * u - q| = |q / u - i| * u := by
    rw [← abs_of_pos hunit, ← abs_mul, abs_of_pos hunit, sub_mul, div_mul_cancel₀ _ hunit.ne', abs_sub_comm]
  obtain ⟨hle, htie⟩ := nearest_int (x := q / u) (m := significandOf q) (j := j) (by exact_mod_cast hnear)
  rw [hdist, hdist]
  refine ⟨mul_le_mul_of_nonneg_right (by exact_mod_cast hle) hunit.le, fun heq hne => heven ?_⟩
  refine htie (by exact_mod_cast mul_right_cancel₀ hunit.ne' heq) ?_
  rintro rfl
  exact hne (by push_cast; rfl)

/-- A rounded value is a nearest representable one, in a tie that of an even pattern: a number of a lower binade is
farther than the border of the binade, and any other is a multiple of the unit of the last place. -/
theorem nearest_representable {v : Rat} (hv : Representable v) :
    |value32 (rnd32 q) - q| ≤ |v - q| ∧
    (|value32 (rnd32 q) - q| = |v - q| → v ≠ value32 (rnd32 q) → significandOf q % 2 = 0) := by
  obtain ⟨k, f, hf, hk, rfl⟩ := hv
  obtain hle | hlt := le_or_gt (binade q) f
  · have hmultiple : (k : Rat) * 2 ^ (f - 23) = (k * 2 ^ (f - binade q).toNat : Int) * 2 ^ (binade q - 23) := by
      rw [two_zpow_eq (f - binade q).toNat (by omega : f - 23 = (f - binade q).toNat + (binade q - 23))]
      push_cast
      ring
    rw [hmultiple]
    exact nearest_multiple hq hmax _
  · obtain ⟨hborder, -⟩ := nearest_multiple hq hmax (2 ^ 23)
    have hbinade : (((2 ^ 23 : Int) : Rat)) * 2 ^ (binade q - 23) = 2 ^ binade q := by
      rw [two_zpow_eq 23 (by omega : binade q = (23 : Nat) + (binade q - 23))]
      push_cast
      rfl
    have hbelow : (2 : Rat) ^ binade q ≤ q := zpow_binade_le hq (hf.trans_lt hlt)
    have hsmall : (k : Rat) * 2 ^ (f - 23) < 2 ^ binade q :=
      calc (k : Rat) * 2 ^ (f - 23)
          _ < 2 ^ 24 * 2 ^ (f - 23) := by
            gcongr
            exact_mod_cast (abs_lt.1 hk).2
          _ = 2 ^ (f + 1) := (two_zpow_eq 24 (by omega)).symm
          _ ≤ 2 ^ binade q := zpow_le_zpow_right₀ one_le_two hlt
    rw [hbinade, abs_of_nonpos (sub_nonpos.2 hbelow)] at hborder
    rw [abs_of_neg (a := (k : Rat) * 2 ^ (f - 23) - q) (by linarith)]
    exact ⟨by linarith, fun heq => by linarith⟩

end Nearest

/-- The pattern of a rational rounded as R9 asks: finite, a nearest representable number, in a tie with an even last
bit. -/
def RoundsToNearestEven (q : Rat) : Prop :=
  finite32 (rnd32 q) = true ∧ ∀ v, Representable v →
    |value32 (rnd32 q) - q| ≤ |v - q| ∧
    (|value32 (rnd32 q) - q| = |v - q| → v ≠ value32 (rnd32 q) → (rnd32 q).getLsbD 0 = false)

theorem rnd32_of_pos {q : Rat} (hq : 0 < q) : rnd32 q = BitVec.ofNat 32 (magnitude32 q.num.natAbs q.den) := by
  rw [rnd32, if_neg hq.ne', if_neg hq.not_gt]

/-- Rounding the negated rational sets the sign bit. -/
theorem rnd32_neg_of_pos {q : Rat} (hq : 0 < q) : rnd32 (-q) = rnd32 q ||| 0x80000000#32 := by
  rw [rnd32_of_pos hq, rnd32, if_neg (neg_ne_zero.2 hq.ne'), if_pos (neg_lt_zero.2 hq), Rat.num_neg_eq_neg_num,
    Int.natAbs_neg, Rat.neg_den]

/-- A magnitude up to that of the largest finite value is no infinity and no NaN. -/
theorem finite32_ofNat {n : Nat} (h : n ≤ 0x7F7FFFFF) : finite32 (BitVec.ofNat 32 n) = true := by
  rw [finite32, bne_iff_ne]
  intro hex
  have hfield := congrArg BitVec.toNat hex
  rw [BitVec.extractLsb'_toNat, BitVec.toNat_ofNat, Nat.shiftRight_eq_div_pow] at hfield
  have hall : (0xFF#8).toNat = 255 := rfl
  omega

theorem roundsToNearestEven_of_pos {q : Rat} (hq : 0 < q) (hmax : q ≤ maxFinite) : RoundsToNearestEven q := by
  refine ⟨?_, fun v hv => ?_⟩
  · rw [rnd32_of_pos hq]
    exact finite32_ofNat (magnitude32_le_max hq hmax)
  · obtain ⟨hnear, heven⟩ := nearest_representable hq hmax hv
    refine ⟨hnear, fun heq hne => ?_⟩
    have hlast : magnitude32 q.num.natAbs q.den % 2 = 0 := by
      have hsignificand := heven heq hne
      rw [magnitude32_eq_significandOf hq hmax]
      omega
    rw [rnd32_of_pos hq, BitVec.getLsbD_ofNat, Nat.testBit_zero, hlast]
    rfl

/-- The sign bit is no part of the exponent or of the last bit, and the representable numbers are those on both sides of
zero. -/
theorem RoundsToNearestEven.neg {q : Rat} (hq : 0 < q) (h : RoundsToNearestEven q) : RoundsToNearestEven (-q) := by
  obtain ⟨hfinite, hnearest⟩ := h
  have hex : (0x80000000#32).extractLsb' 23 8 = 0#8 := by decide
  have hlast : (0x80000000#32).getLsbD 0 = false := by decide
  have hdist (v w : Rat) : |-v - -w| = |v - w| := by rw [neg_sub_neg, abs_sub_comm]
  refine ⟨?_, fun v hv => ?_⟩
  · rw [rnd32_neg_of_pos hq, finite32, BitVec.extractLsb'_or, hex, BitVec.or_zero]
    exact hfinite
  · obtain ⟨hnear, heven⟩ := hnearest (-v) hv.neg
    rw [value32_rnd32_neg, hdist, ← neg_neg v, hdist, rnd32_neg_of_pos hq, BitVec.getLsbD_or, hlast, Bool.or_false]
    exact ⟨hnear, fun heq hne => heven heq fun heq' => hne (congrArg Neg.neg heq')⟩

theorem value32_rnd32_zero : value32 (rnd32 0) = 0 := by decide

theorem roundsToNearestEven_zero : RoundsToNearestEven 0 := by
  refine ⟨by decide, fun v _ => ?_⟩
  rw [value32_rnd32_zero, sub_zero, sub_zero, abs_zero]
  exact ⟨abs_nonneg v, fun heq hne => absurd (abs_eq_zero.1 heq.symm) hne⟩

theorem roundsToNearestEven {q : Rat} (h : |q| ≤ maxFinite) : RoundsToNearestEven q := by
  obtain hneg | rfl | hpos := lt_trichotomy q 0
  · rw [abs_of_neg hneg] at h
    simpa using (roundsToNearestEven_of_pos (neg_pos.2 hneg) h).neg (neg_pos.2 hneg)
  · exact roundsToNearestEven_zero
  · exact roundsToNearestEven_of_pos hpos ((le_abs_self q).trans h)

/-- Settles O38: every finite pattern denotes a representable number. -/
theorem roundingIsToNearestTiesToEven : Obligations.RoundingIsToNearestTiesToEven := by
  intro q hq
  obtain ⟨hfinite, hnearest⟩ := roundsToNearestEven hq
  exact ⟨hfinite, fun x _ => hnearest (value32 x) (representable_value32 x)⟩

/-- A representable rational is rounded to itself. -/
theorem value32_rnd32_of_representable {q : Rat} (hq : Representable q) (hmax : |q| ≤ maxFinite) :
    value32 (rnd32 q) = q := by
  obtain ⟨-, hnearest⟩ := roundsToNearestEven hmax
  have hdist := (hnearest q hq).1
  rw [sub_self, abs_zero] at hdist
  exact sub_eq_zero.1 (abs_nonpos_iff.1 hdist)

/-- So is an integer multiple of a power of two that is neither too large nor too fine. -/
theorem value32_rnd32_div {k : Int} (d : Nat) (hk : |k| < 2 ^ 24) (hd : d ≤ 149) :
    value32 (rnd32 (k / 2 ^ d)) = k / 2 ^ d := by
  refine value32_rnd32_of_representable ⟨k, 23 - d, by omega, hk, ?_⟩ ?_
  · rw [sub_sub_cancel_left, zpow_neg, zpow_natCast, div_eq_mul_inv]
  · have hint : |(k : Rat)| ≤ 2 ^ 24 := by exact_mod_cast hk.le
    calc |(k : Rat) / 2 ^ d|
        _ ≤ |(k : Rat)| := by
          rw [abs_div, abs_of_pos (by positivity : (0 : Rat) < 2 ^ d)]
          exact div_le_self (abs_nonneg _) (one_le_pow₀ one_le_two)
        _ ≤ 2 ^ 24 := hint
        _ ≤ maxFinite := by decide +kernel

end Sys2Proof.Machine
end

section
/-! PROOFS. The Celsius value of a code (42_acquisition.md R91, R92, 10_state.md R21) and the constants of the accessors
(43_unit_accessors.md R100). -/

namespace Sys2Proof.Machine

open Sys2Proof

/-- R91: the code's sign bit decides whether it counts from 4096 down. -/
theorem code_toInt (c : Code) : c.toInt = if c.getLsbD 11 = true then (c.toNat : Int) - 4096 else c.toNat := by
  rw [BitVec.toInt_eq_msb_cond, BitVec.msb_eq_getLsbD_last]
  norm_num

theorem celsius_eq (c : Code) :
    celsius c = (if c.getLsbD 11 = true then (c.toNat : Rat) - 4096 else (c.toNat : Rat)) * (1 / 16) := by
  rw [celsius, code_toInt, div_eq_mul_one_div]
  split <;> norm_num

/-- R91: the 16-bit sign extension has the same value. -/
theorem celsius_signExtend (c : Code) : celsius c = ((c.signExtend 16).toInt : Rat) / 16 := by
  rw [celsius, BitVec.toInt_signExtend_of_le (by decide)]

/-- R20: a code is a 12-bit two's-complement number. -/
theorem code_bounds (c : Code) : -2048 ≤ c.toInt ∧ c.toInt ≤ 2047 := ⟨minCode_le c, le_maxCode c⟩

theorem celsius_bounds (c : Code) : -128 ≤ celsius c ∧ celsius c ≤ 2047 / 16 := by
  obtain ⟨hlow, hhigh⟩ := code_bounds c
  have hlow : (-2048 : Rat) ≤ c.toInt := by exact_mod_cast hlow
  have hhigh : (c.toInt : Rat) ≤ 2047 := by exact_mod_cast hhigh
  unfold celsius
  constructor <;> linarith

/-- A small multiple of a Celsius value has a pattern. -/
theorem value32_rnd32_celsius_mul (c : Code) {k : Int} (hk : |k| ≤ 2 ^ 12) :
    value32 (rnd32 (celsius c * k)) = celsius c * k := by
  obtain ⟨hlow, hhigh⟩ := code_bounds c
  have hcode : |c.toInt| ≤ 2 ^ 11 := abs_le.2 ⟨hlow, by omega⟩
  have hproduct : |c.toInt * k| < 2 ^ 24 := by
    calc |c.toInt * k|
        _ = |c.toInt| * |k| := abs_mul _ _
        _ ≤ 2 ^ 11 * 2 ^ 12 := by gcongr
        _ < 2 ^ 24 := by norm_num
  have hvalue : celsius c * k = (c.toInt * k : Int) / 2 ^ 4 := by
    rw [celsius]
    push_cast
    ring
  rw [hvalue]
  exact value32_rnd32_div 4 hproduct (by decide)

/-- R91: the pattern of the Celsius value denotes it. -/
theorem value32_celsius32 (c : Code) : value32 (celsius32 c) = celsius c := by
  have hone := value32_rnd32_celsius_mul c (k := 1) (by decide)
  rwa [Int.cast_one, mul_one] at hone

theorem finite32_celsius32 (c : Code) : finite32 (celsius32 c) = true := by
  obtain ⟨hlow, hhigh⟩ := celsius_bounds c
  have hmax : (128 : Rat) ≤ maxFinite := by decide +kernel
  exact (roundsToNearestEven (abs_le.2 ⟨by linarith, by linarith⟩)).1

theorem celsius_injective {c d : Code} (h : celsius c = celsius d) : c = d := by
  have hcode : (c.toInt : Rat) = d.toInt := (div_left_inj' (by norm_num)).1 h
  exact BitVec.eq_of_toInt_eq (by exact_mod_cast hcode)

/-- Settles O36: the value of every code, then the table's rows and the reset value. -/
theorem celsiusIsTheSignedCodeOverSixteen : Obligations.CelsiusIsTheSignedCodeOverSixteen := by
  refine ⟨fun c => ?_, ?_⟩
  · obtain ⟨hlow, hhigh⟩ := celsius_bounds c
    exact ⟨celsius_eq c, celsius_signExtend c, hlow, hhigh, finite32_celsius32 c, value32_celsius32 c⟩
  · refine ⟨?_, ?_, ?_, ?_, ?_, ?_, fun _ _ => celsius_injective, fun _ => zero_div _⟩ <;> decide +kernel

/-- R92: of a negative code, the complement of its predecessor is its distance from 4096. -/
theorem toNat_not_pred {c : Code} (hc : c.getLsbD 11 = true) : (~~~(c - 1#12)).toNat = 4096 - c.toNat := by
  have hpos : 0 < c.toNat := by
    by_contra hzero
    obtain rfl : c = 0 := BitVec.eq_of_toNat_eq (by simpa using hzero)
    exact absurd hc (by decide)
  rw [BitVec.toNat_not, BitVec.toNat_sub]
  have hlt := c.isLt
  simp only [BitVec.toNat_ofNat]
  omega

/-- R92: the magnitude of a code, by its sign bit. -/
theorem magnitude_eq (c : Code) : magnitude c = if c.getLsbD 11 = true then ~~~(c - 1#12) else c := by
  rw [magnitude, BitVec.msb_eq_getLsbD_last]
  rfl

/-- R92: `(16 * t) mod 4096` is the code of the value. -/
theorem codeOfCelsius_celsius (c : Code) : codeOfCelsius (celsius c) = c := by
  have hfloor : (16 * celsius c).floor = c.toInt := by
    rw [celsius, mul_div_cancel₀ _ (by norm_num)]
    exact Rat.floor_intCast _
  rw [codeOfCelsius, hfloor, BitVec.ofInt_toInt]

/-- R92: the bytes of a code carry it. -/
theorem tempCode_bytesOfCode (c : Code) (low : BitVec 4) :
    tempCode (bytesOfCode c low).1 (bytesOfCode c low).2 = c := by
  have hnibble : (c.extractLsb' 0 4 ++ low : Byte).extractLsb' 4 4 = c.extractLsb' 0 4 :=
    BitVec.extractLsb'_append_eq_left
  rw [tempCode_eq_append]
  change c.extractLsb' 4 8 ++ (c.extractLsb' 0 4 ++ low : Byte).extractLsb' 4 4 = c
  rw [hnibble]
  exact BitVec.extractLsb'_append_extractLsb' (w := 8) (len := 4)

/-- Settles O37: the magnitude by the sign bit, and the two inverses. -/
theorem magnitudeIdentityAndInverse : Obligations.MagnitudeIdentityAndInverse := by
  refine ⟨fun c hc => ?_, fun c hc => ?_, codeOfCelsius_celsius, tempCode_bytesOfCode⟩
  · have hmagnitude : magnitude c = ~~~(c - 1#12) := by rw [magnitude_eq, if_pos hc]
    refine ⟨toNat_not_pred hc, hmagnitude, ?_⟩
    rw [celsius_eq, if_pos hc, hmagnitude, toNat_not_pred hc, Nat.cast_sub c.isLt.le]
    push_cast
    ring
  · have hmagnitude : magnitude c = c := by rw [magnitude_eq, if_neg (by rw [hc]; decide)]
    exact ⟨hmagnitude, by rw [celsius_eq, if_neg (by rw [hc]; decide), hmagnitude]⟩

/-- R100: the constants denote 9, 5 and 32. -/
theorem value32_constants : value32 c9 = 9 ∧ value32 c5 = 5 ∧ value32 c32 = 32 := by decide +kernel

/-- R100: `C *f 9` is exact. -/
theorem value32_celsius32_mul_nine (c : Code) : value32 (mul32 (celsius32 c) c9) = celsius c * 9 := by
  rw [mul32, value32_celsius32, value32_constants.1]
  exact value32_rnd32_celsius_mul c (k := 9) (by decide)

/-- Settles O39: the constants are evaluated, the product is that of `value32_celsius32_mul_nine`. -/
theorem accessorConstantsAreTheSpecs : Obligations.AccessorConstantsAreTheSpecs := by
  obtain ⟨h9, h5, h32⟩ := rnd32_constants
  obtain ⟨hv9, hv5, hv32⟩ := value32_constants
  exact ⟨by decide +kernel, rfl, by decide +kernel, h9.symm, h5.symm, h32.symm, hv9, hv5, hv32,
    value32_celsius32_mul_nine⟩

end Sys2Proof.Machine
end

section
/-! PROOFS. Where the two accessor arithmetics differ (43_unit_accessors.md R100, 95_test_vectors.md section 2.5): each
accessor as roundings of ratios of integers, which the kernel counts over all codes. -/

namespace Sys2Proof.Machine

open Sys2Proof

section Ratio

variable {n d : Nat}

/-- A ratio of natural numbers is rounded without being reduced first. -/
theorem rnd32_natRatio (hn : 0 < n) (hd : 0 < d) : rnd32 (n / d : Rat) = BitVec.ofNat 32 (magnitude32 n d) := by
  have hq : (0 : Rat) < n / d := by positivity
  have hreduced := natAbs_div_den hq
  rw [rnd32_of_pos hq]
  exact congrArg (BitVec.ofNat 32)
    (le_antisymm (magnitude32_mono (natAbs_num_pos hq) (Rat.den_pos _) hn hd hreduced.le)
      (magnitude32_mono hn hd (natAbs_num_pos hq) (Rat.den_pos _) hreduced.ge))

/-- The value of a pattern with an exponent field of at least 120, in units of 2^-30. -/
def magnitudeUnits (m : Nat) : Nat := (2 ^ 23 + m % 2 ^ 23) * 2 ^ (m / 2 ^ 23 - 120)

theorem magnitudeValue_eq_units {m : Nat} (h : 120 * 2 ^ 23 ≤ m) : magnitudeValue m = magnitudeUnits m / 2 ^ 30 := by
  have hex : ((m / 2 ^ 23 : Nat) : Int) - 150 = (m / 2 ^ 23 - 120 : Nat) + -30 := by omega
  rw [magnitudeValue, if_neg (by omega), scale2_eq, two_zpow_eq _ hex, magnitudeUnits, Nat.cast_mul, Nat.cast_pow,
    Nat.cast_two, ← mul_assoc, div_eq_mul_inv]
  rfl

/-- A ratio of at least 2^-7 is rounded to a multiple of 2^-30. -/
theorem value32_rnd32_natRatio (hn : 0 < n) (hd : 0 < d) (h : d ≤ 2 ^ 7 * n) :
    value32 (rnd32 (n / d : Rat)) = magnitudeUnits (magnitude32 n d) / 2 ^ 30 := by
  have hsmallest : magnitude32 1 (2 ^ 7) = 120 * 2 ^ 23 := by decide +kernel
  rw [rnd32_natRatio hn hd, value32_ofNat (magnitude32_lt n d), magnitudeValue_eq_units]
  rw [← hsmallest]
  refine magnitude32_mono one_pos (by norm_num) hn hd ?_
  rw [div_le_div_iff₀ (by positivity) (by positivity)]
  exact_mod_cast (by omega : 1 * d ≤ n * 2 ^ 7)

/-- The pattern of a ratio of integers. -/
def ratioBits (z : Int) (d : Nat) : U32 :=
  if z = 0 then 0
  else if z < 0 then BitVec.ofNat 32 (magnitude32 z.natAbs d) ||| 0x80000000#32
  else BitVec.ofNat 32 (magnitude32 z.natAbs d)

/-- The value a ratio of integers is rounded to, in units of 2^-30. -/
def ratioUnits (z : Int) (d : Nat) : Int := z.sign * magnitudeUnits (magnitude32 z.natAbs d)

theorem ratio_of_pos {z : Int} (hz : 0 < z) : (z : Rat) / d = (z.natAbs : Rat) / d := by
  rw [Nat.cast_natAbs, abs_of_pos hz]

theorem ratio_of_neg {z : Int} (hz : z < 0) : (z : Rat) / d = -((z.natAbs : Rat) / d) := by
  rw [Nat.cast_natAbs, abs_of_neg hz, Int.cast_neg, neg_div, neg_neg]

theorem rnd32_ratio (z : Int) (hd : 0 < d) : rnd32 (z / d : Rat) = ratioBits z d := by
  obtain hneg | rfl | hpos := lt_trichotomy z 0
  · have hn : 0 < z.natAbs := Int.natAbs_pos.2 hneg.ne
    rw [ratioBits, if_neg hneg.ne, if_pos hneg, ratio_of_neg hneg, rnd32_neg_of_pos (by positivity),
      rnd32_natRatio hn hd]
  · rw [Int.cast_zero, zero_div, rnd32, if_pos rfl, ratioBits, if_pos rfl]
  · rw [ratioBits, if_neg hpos.ne', if_neg hpos.not_gt, ratio_of_pos hpos,
      rnd32_natRatio (Int.natAbs_pos.2 hpos.ne') hd]

theorem value32_rnd32_ratio {z : Int} (hd : 0 < d) (h : z ≠ 0 → d ≤ 2 ^ 7 * z.natAbs) :
    value32 (rnd32 (z / d : Rat)) = ratioUnits z d / 2 ^ 30 := by
  obtain hneg | rfl | hpos := lt_trichotomy z 0
  · rw [ratio_of_neg hneg, value32_rnd32_neg, value32_rnd32_natRatio (Int.natAbs_pos.2 hneg.ne) hd (h hneg.ne),
      ratioUnits, Int.sign_eq_neg_one_of_neg hneg, neg_one_mul, Int.cast_neg, Int.cast_natCast, neg_div]
  · rw [Int.cast_zero, zero_div, value32_rnd32_zero, ratioUnits, Int.sign_zero, zero_mul, Int.cast_zero, zero_div]
  · rw [ratio_of_pos hpos, value32_rnd32_natRatio (Int.natAbs_pos.2 hpos.ne') hd (h hpos.ne'),
      ratioUnits, Int.sign_eq_one_of_pos hpos, one_mul, Int.cast_natCast]

end Ratio

/-- R103: the sum GET_K rounds in the default arithmetic: the Celsius value and the constant's own value. -/
def kelvinSum (c : Code) : Rat := celsius c + 8950579 / 2 ^ 15

section Accessors

variable (c : Code)

/-- R103: GET_K of the default arithmetic is one rounding of a number that has a pattern. -/
theorem kelvin32_leftToRight : kelvin32 .leftToRight c = rnd32 (kelvinSum c) := by
  have hk273 : value32 k273 = 8950579 / 2 ^ 15 := by decide +kernel
  rw [kelvin32, add32, value32_celsius32, hk273, kelvinSum]

theorem kelvinSum_eq : kelvinSum c = (2048 * c.toInt + 8950579 : Int) / 2 ^ 15 := by
  rw [kelvinSum, celsius]
  push_cast
  ring

theorem value32_kelvin32 : value32 (kelvin32 .leftToRight c) = kelvinSum c := by
  obtain ⟨hlow, hhigh⟩ := code_bounds c
  rw [kelvin32_leftToRight, kelvinSum_eq]
  exact value32_rnd32_div 15 (by rw [abs_of_pos] <;> omega) (by decide)

/-- R102: GET_F of the default arithmetic rounds the quotient, then the sum; the product is exact. -/
theorem fahrenheit32_ratio :
    fahrenheit32 .leftToRight c = ratioBits (ratioUnits (9 * c.toInt) 80 + 2 ^ 35) (2 ^ 30) ∧
    fahrenheit32 .exactThenRound c = ratioBits (9 * c.toInt + 2560) 80 := by
  obtain ⟨-, h5, h32⟩ := value32_constants
  constructor
  · have hquotient : celsius c * 9 / 5 = (9 * c.toInt : Int) / (80 : Nat) := by
      rw [celsius]
      push_cast
      ring
    rw [fahrenheit32, add32, div32, value32_celsius32_mul_nine, h5, h32, hquotient,
      value32_rnd32_ratio (by norm_num) (by omega), ← rnd32_ratio _ (by norm_num)]
    congr 1
    push_cast
    ring
  · rw [fahrenheit32, ← rnd32_ratio _ (by norm_num), celsius]
    congr 1
    push_cast
    ring

/-- R104: GET_R of the default arithmetic rounds the product, then the quotient. -/
theorem rankine32_ratio :
    rankine32 .leftToRight c =
      ratioBits (ratioUnits (9 * (2048 * c.toInt + 8950579)) (2 ^ 15)) (5 * 2 ^ 30) ∧
    rankine32 .exactThenRound c = ratioBits (9 * (25 * c.toInt + 109260)) 2000 := by
  obtain ⟨h9, h5, -⟩ := value32_constants
  obtain ⟨hlow, hhigh⟩ := code_bounds c
  constructor
  · have hproduct : value32 (kelvin32 .leftToRight c) * 9 =
        (9 * (2048 * c.toInt + 8950579) : Int) / (2 ^ 15 : Nat) := by
      rw [value32_kelvin32, kelvinSum_eq]
      push_cast
      ring
    rw [rankine32, div32, mul32, h9, h5, hproduct, value32_rnd32_ratio (by norm_num) (by omega),
      ← rnd32_ratio _ (by norm_num)]
    congr 1
    push_cast
    ring
  · rw [rankine32, ← rnd32_ratio _ (by norm_num), celsius]
    congr 1
    push_cast
    ring

end Accessors

/-- The binade of a rational of at least the smallest normal number. -/
theorem binade_eq {q : Rat} {e : Int} (he : -126 ≤ e) (hlow : 2 ^ e ≤ q) (hhigh : q < 2 ^ (e + 1)) : binade q = e := by
  have hq : 0 < q := lt_of_lt_of_le (by positivity) hlow
  have hlog : Int.log 2 q = e := by
    refine le_antisymm (Int.le_of_lt_add_one ?_) ?_
    · rwa [← Int.lt_zpow_iff_log_lt one_lt_two hq, Nat.cast_two]
    · rwa [← Int.zpow_le_iff_le_log one_lt_two hq, Nat.cast_two]
  rw [binade, hlog, max_eq_left he]

/-- A rational nearer to a rounded value than half a unit of the last place, in the same binade, is rounded to it. -/
theorem rnd32_eq_of_near {p q : Rat} (hp : 0 < p) (hpmax : p ≤ maxFinite) (hq : 0 < q) (hqmax : q ≤ maxFinite)
    (hexact : value32 (rnd32 p) = p) (hbinade : binade q = binade p) (hnear : |q - p| < 2 ^ (binade p - 24)) :
    rnd32 q = rnd32 p := by
  have hunit : (0 : Rat) < 2 ^ (binade p - 23) := by positivity
  have hhalf : (2 : Rat) ^ (binade p - 23) = 2 * 2 ^ (binade p - 24) := by
    rw [two_zpow_eq 1 (by omega : binade p - 23 = (1 : Nat) + (binade p - 24)), pow_one]
  obtain ⟨hle, -⟩ := nearest_multiple hq hqmax (significandOf p)
  rw [value32_rnd32_eq hp hpmax] at hexact
  rw [value32_rnd32_eq hq hqmax, hbinade, Int.cast_natCast, hexact, abs_sub_comm p] at hle
  have hdist : |(((significandOf q : Int) - significandOf p : Int) : Rat)| < 1 := by
    refine lt_of_mul_lt_mul_right ?_ hunit.le
    calc |(((significandOf q : Int) - significandOf p : Int) : Rat)| * 2 ^ (binade p - 23)
        _ = |significandOf q * 2 ^ (binade p - 23) - p| := by
          rw [← abs_of_pos hunit, ← abs_mul, abs_of_pos hunit]
          push_cast
          rw [sub_mul, hexact]
        _ ≤ |significandOf q * 2 ^ (binade p - 23) - q| + |q - p| := abs_sub_le _ _ _
        _ < 1 * 2 ^ (binade p - 23) := by linarith
  have hsignificand : significandOf q = significandOf p := by
    have hint : |(significandOf q : Int) - significandOf p| < 1 := by exact_mod_cast hdist
    have hzero := Int.abs_lt_one_iff.1 hint
    omega
  rw [rnd32_of_pos hq, rnd32_of_pos hp, magnitude32_eq_significandOf hq hqmax, magnitude32_eq_significandOf hp hpmax,
    hbinade, hsignificand]

/-- R103: the sum of the exact arithmetic is larger by the constant's rounding error. -/
theorem kelvinSum_add (c : Code) : celsius c + 27315 / 100 = kelvinSum c + 1 / 163840 := by
  rw [kelvinSum]
  norm_num
  ring

/-- R103: where both sums are in the binade of exponent `e` and the constant's rounding error is below half a unit of
the last place, they are rounded to the same pattern. -/
theorem rnd32_kelvin_of_binade {c : Code} {e : Int} (he : -126 ≤ e) (hunit : (1 / 163840 : Rat) < 2 ^ (e - 24))
    (hlow : 2 ^ e ≤ kelvinSum c) (hhigh : kelvinSum c + 1 / 163840 < 2 ^ (e + 1)) :
    rnd32 (celsius c + 27315 / 100) = rnd32 (kelvinSum c) := by
  have hmax : (512 : Rat) ≤ maxFinite := by decide +kernel
  obtain ⟨-, hcelsius⟩ := celsius_bounds c
  have hsum : kelvinSum c + 1 / 163840 ≤ 512 := by
    rw [← kelvinSum_add]
    linarith
  have hpos : 0 < kelvinSum c := lt_of_lt_of_le (by positivity) hlow
  have hbinade : binade (kelvinSum c) = e := binade_eq he hlow (by linarith)
  have hexact : value32 (rnd32 (kelvinSum c)) = kelvinSum c := by rw [← kelvin32_leftToRight, value32_kelvin32]
  rw [kelvinSum_add]
  refine rnd32_eq_of_near hpos (by linarith) (by linarith) (by linarith) hexact ?_ ?_
  · rw [hbinade, binade_eq he (by linarith) hhigh]
  · rw [hbinade, add_sub_cancel_left]
    exact (abs_of_pos (by norm_num)).trans_lt hunit

/-- Section 2.5: the two arithmetics agree on GET_K at every code, on both sides of 256. -/
theorem kelvin32_arithmetics_agree (c : Code) : kelvin32 .leftToRight c = kelvin32 .exactThenRound c := by
  obtain ⟨hmin, hmax⟩ := celsius_bounds c
  rw [kelvin32_leftToRight, kelvin32]
  obtain hbelow | habove := lt_or_ge c.toInt (-274)
  · have hbelow : (c.toInt : Rat) ≤ -275 := by exact_mod_cast Int.le_sub_one_of_lt hbelow
    refine (rnd32_kelvin_of_binade (e := 7) (by norm_num) (by norm_num) ?_ ?_).symm <;> rw [kelvinSum]
    · norm_num
      linarith
    · rw [celsius]
      norm_num
      linarith
  · have habove : (-274 : Rat) ≤ c.toInt := by exact_mod_cast habove
    refine (rnd32_kelvin_of_binade (e := 8) (by norm_num) (by norm_num) ?_ ?_).symm <;> rw [kelvinSum]
    · rw [celsius]
      norm_num
      linarith
    · norm_num
      linarith

/-- Settles O45: the ratios of the accessors' formulas are counted. -/
theorem arithmeticsDifferWhereTheSpecSays : Obligations.ArithmeticsDifferWhereTheSpecSays := by
  refine ⟨kelvin32_arithmetics_agree, ?_, ?_⟩
  · simp only [fahrenheit32_ratio]
    decide +kernel
  · simp only [rankine32_ratio]
    decide +kernel

end Sys2Proof.Machine
end
